-- ==== Sys2Proof/Word.lean ====
section
/-! DEFINITION. The word types of CANCF (00_scope R6, R8): every quantity is unsigned, bits are numbered from 0
at the least significant bit, bytes from offset 0. -/

namespace Sys2Proof

/-- One byte: a payload byte, a slot reference, a size, a mailbox index, a length (R91, R101). -/
abbrev Byte := BitVec 8

/-- The wire identifier `WID` (R93) and the timeout operand (R101). -/
abbrev Word32 := BitVec 32

/-- The numeric identifier, `ID_BITS` = 29 (R6, R91). -/
abbrev Ident := BitVec 29

/-- An interface name on the `cfg` port: up to 16 bytes, opaque to CANCF (R32, R101). -/
abbrev CfgName := BitVec 128

/-- `PAYLOAD_BYTES` bytes, `DATA[0..7]` or `WDATA[0..7]` (R90, R91). -/
abbrev Payload := Vector Byte 8

/-- `WIRE_BYTES` bytes, a serialised Wire Frame `WB[0..15]` (R95). -/
abbrev WireBytes := Vector Byte 16

end Sys2Proof
end

