-- ==== Sys2Proof/Syntax.lean ====
section
/-! DEFINITION. The syntax of CANCF-OPS 1: the two frame forms (30_encoding R90, R91), the command ports (R99),
the request as it stands on a port, and the nineteen operations (R100), one constructor per row of
spec/opcode_table.json. -/

namespace Sys2Proof

/-- A Wire Frame before serialisation (R90): the identifier with its flag bits, the length, the payload. -/
structure WireFrame where
  wid   : Word32
  wlen  : Byte
  wdata : Payload
  deriving DecidableEq, Repr, Inhabited

/-- An Internal Frame (R91). `len` is 8 bits wide: a valid frame has `len ≤ 8`, a malformed one is carried
unchanged (R104). -/
structure InternalFrame where
  err  : Bool
  rtr  : Bool
  ext  : Bool
  id   : Ident
  len  : Byte
  data : Payload
  deriving DecidableEq, Repr, Inhabited

/-- The agents that issue operations, one command port each (R11, R99). The environment has no port. -/
inductive Agent where
  | p   -- producer, interrupt-equivalent context
  | c   -- consumer, thread context
  | a   -- application, thread context
  deriving DecidableEq, Repr, Inhabited

/-- The ten operation formats (R99): which operand ports an operation reads. -/
inductive Format where
  | none | cfg | frame | wire | slotFrame | slotSize | slot | timeout | mbox | mboxFrame
  deriving DecidableEq, Repr, Inhabited

/-- A request as it stands on a command port (R99): the operation code and every operand port. A port the
operation's format does not name is ignored. -/
structure Request where
  op      : Byte
  slot    : Byte := 0
  size    : Byte := 0
  timeout : Word32 := 0
  mbox    : Byte := 0
  frame   : BitVec 104 := 0
  wire    : BitVec 128 := 0
  cfg     : CfgName := 0
  deriving DecidableEq, Repr, Inhabited

/-- The nineteen operations (R100), in the order of their codes, with the operands their format names. -/
inductive Instr where
  | init
  | start (cfg : CfgName)
  | stop
  | sleep
  | wakeup
  | encode (f : InternalFrame)
  | decode (w : WireBytes)
  | claimEmpty
  | slotWrite (slot : Byte) (f : InternalFrame)
  | publish (slot size : Byte)
  | claimFull (timeout : Word32)
  | slotRead (slot : Byte)
  | release (slot : Byte)
  | intake
  | receive (mbox : Byte)
  | transmit (mbox : Byte) (f : InternalFrame)
  | isRxNonempty (mbox : Byte)
  | isTxReady (mbox : Byte)
  | abort (mbox : Byte)
  deriving DecidableEq, Repr

end Sys2Proof
end

