-- ==== Sys2Proof/Config.lean ====
section
/-! DEFINITION. The parameters of an instance (00_scope R6) and the free values: what the environment answers
(60_exceptions R258 to R262) and which move comes next (10_state R47). The parameters stand in the state as one
record no step writes, so a statement about every state quantifies over them (log 3); a free value is a constant
without a body, applied to the draw counter (logs 4, 5). -/

namespace Sys2Proof

/-- `WIRE_BYTE_ORDER` (R6, R60). -/
inductive ByteOrder where
  | little
  | big
  deriving DecidableEq, Repr, Inhabited

/-- The parameters of R6 that are not fixed. -/
structure Config where
  /-- `N`, the capacity of the ring, `1 ≤ N ≤ 256`, default 4. -/
  n : Nat
  /-- `WIRE_BYTE_ORDER`, default little. -/
  wireByteOrder : ByteOrder
  /-- `TICK`, the duration of one unit of the timeout: OPEN, and no rule reads it (R162). -/
  tick : Nat
  /-- `P_RESTART_FLUSH`, whether START empties the ring: OPEN (R224). -/
  restartFlush : Bool
  /-- `P_DROP_REPORTS_ACTIVITY`, what INTAKE reports of a dropped frame: default true (R190). -/
  dropReportsActivity : Bool
  deriving DecidableEq, Repr, Inhabited

/-- `SLOT_BYTES` = ceil(104 / 8) (R6). -/
abbrev slotBytes : Nat := 13

/-- `TX_MAILBOXES`, fixed (R6). -/
abbrev txMailboxes : Nat := 1

/-- `RX_MAILBOXES`, fixed (R6). -/
abbrev rxMailboxes : Nat := 1

/-- The OPEN value of `TICK`: free (R162). -/
opaque Config.openTick : Nat

/-- The OPEN value of `P_RESTART_FLUSH`: free (R224). -/
opaque Config.openRestartFlush : Bool

/-- The instance of the defaults of R6, the OPEN parameters free (log 3). -/
def Config.default : Config where
  n := 4
  wireByteOrder := .little
  tick := Config.openTick
  restartFlush := Config.openRestartFlush
  dropReportsActivity := true

/-- Answers of `env.open` (R258, R259). `ok` carries the frames a fresh link already holds (log 10). -/
inductive OpenAnswer where
  | ok (fresh : List WireBytes)
  | openFailed
  | resolveFailed
  | bindFailed
  deriving DecidableEq, Repr, Inhabited

/-- Answers of `env.close` and `env.write_frame`, and whether the call behind `env.poll_readable` itself
failed (R260 to R262). -/
inductive Ack where
  | ok
  | failed
  deriving DecidableEq, Repr, Inhabited

/-- Answers of the two polls (R261): `yes` true, `no` false. -/
inductive PollAnswer where
  | yes
  | no
  | failed
  deriving DecidableEq, Repr, Inhabited

/-- Answers of `env.read_frame` (R262): the head of WIRE_RX, or a failure, which may have lost the head or not
(R244; log 9). -/
inductive ReadAnswer where
  | ok
  | failed (headLost : Bool)
  deriving DecidableEq, Repr, Inhabited

/-- What may happen next (R47, R70): an agent takes its next atomic step and up to `steps` more of the same
operation before another agent does (R67); the application thread that acts through port A changes, to the one whose TRANSMIT is
the `k`-th of those waiting or else to one with none in progress (R11, R287; log 12); the environment appends a frame (R269) or drops the `k`-th one (R260);
a held CLAIM_FULL completes or expires (R158). -/
inductive Move where
  | agent (who : Agent) (steps : Nat)
  | thread (k : Nat)
  | inject (w : WireBytes)
  | lose (k : Nat)
  | complete
  | expire
  deriving DecidableEq, Repr, Inhabited

/-! The free values, indexed by the draw counter and, where the question has an operand, by what it hands to the
environment (logs 4, 5). -/

/-- A free answer of `env.open(cfg)`, asked with the name CFG holds (R32, R37, R259). -/
opaque Config.freeOpen : Option CfgName → Nat → OpenAnswer

/-- A free answer of `env.close` (R260). -/
opaque Config.freeClose : Nat → Ack

/-- Whether a free `env.poll_readable` fails (R261). -/
opaque Config.freePollReadable : Nat → Ack

/-- A free answer of `env.poll_writable` (R261). -/
opaque Config.freePollWritable : Nat → PollAnswer

/-- A free answer of `env.read_frame` (R262). -/
opaque Config.freeRead : Nat → ReadAnswer

/-- A free answer of `env.write_frame(WB)` (R262). -/
opaque Config.freeWrite : WireBytes → Nat → Ack

/-- A free choice of the next move (R47). -/
opaque Config.freeMove : Nat → Move

end Sys2Proof
end

