-- ==== Sys2Proof/Machine/State.lean ====
section
/-! DEFINITION. The state of one CANCF instance as plain data (10_state R20 to R47), the wire side's two queues
(R39, R40), and what the model holds as input: the requests still to come, the schedule and the environment's
answers. Hardware reset (70 R280). -/

namespace Sys2Proof.Machine

/-- `LSTATE` (R30). -/
inductive LState where
  | uninit
  | stopped
  | ready
  | halted
  deriving DecidableEq, Repr, Inhabited

/-- The fault causes of R240, by DOC0's and the spec's names. `nullHandle` is reserved: no rule raises it (R268). -/
inductive FaultCode where
  | openFailure | resolveFailure | bindFailure | closeFailure | pollFailure | transmitFailure | receiveFailure
  | invalidMailbox | notReady | nullHandle | notInitialized | badLifecycle | concurrentLifecycle
  | doubleClaimEmpty | slotWriteNotOwned | publishNotClaimed | publishWrongSlot | publishBadSize
  | doubleClaimFull | slotReadNotOwned | releaseNotClaimed | releaseWrongSlot | unwrittenSlot
  | illegalOp
  deriving DecidableEq, Repr

/-- One slot of the ring with its size register (R20 to R22): `none` where nothing has written it since reset or
INIT. -/
structure Slot where
  frame : Option InternalFrame
  size  : Option Byte
  deriving DecidableEq, Repr, Inhabited

/-- Slot space (R38, R69): the slots in index order. CANCF's only storage. -/
abbrev Memory := List Slot

/-- A response (R102). CLAIM_FULL hands over `SIZE[RD]` as the register holds it (log 17). -/
inductive Response where
  | ok
  | slot (s : Byte)
  | slotSize (s : Byte) (size : Option Byte)
  | full
  | empty
  | frame (f : InternalFrame)
  | none
  | wire (w : WireBytes)
  | bool (b : Bool)
  deriving DecidableEq, Repr

/-- Where an agent stands inside a composite operation: the step of R190, R192 or R194 it takes next, with what the
earlier steps handed on; `idle` when it has no operation in progress (R67, R297). -/
inductive Stage where
  | idle
  | intakePoll                                        -- R190 step 1
  | intakeRead                                        -- R190 step 2
  | intakeDecode (w : WireBytes)                      -- R190 step 3
  | intakeClaim (f : InternalFrame)                   -- R190 step 4
  | intakeStore (slot : Byte) (f : InternalFrame)     -- R190 step 5
  | intakeReport                                      -- R190 step 6
  | receiveClaim                                      -- R192 step 1
  | receiveRead (slot : Byte)                         -- R192 step 2
  | receiveRelease (slot : Byte) (f : InternalFrame)  -- R192 step 3
  | receiveReply (f : InternalFrame)                  -- R192 step 4
  | transmitEncode (f : InternalFrame)                -- R194 step 1
  | transmitWrite (w : WireBytes)                     -- R194 step 2
  | transmitReply                                     -- R194 step 3
  deriving DecidableEq, Repr, Inhabited

/-- One command port (R99): the requests its agent has still to issue, in order, and the stage of the operation in
progress. -/
structure Port where
  pending : List Request
  stage   : Stage
  deriving DecidableEq, Repr, Inhabited

/-- The port being served, and how many further atomic steps it may take before another move (R67; log 5). -/
structure Turn where
  agent : Agent
  steps : Nat
  deriving DecidableEq, Repr, Inhabited

/-- The wire side (R39, R40, R258): its two queues, oldest first, and the answers it has still to give, one list per
question; where a list is empty the answer is free (log 4). -/
structure Env where
  wireRx       : List WireBytes
  wireTx       : List WireBytes
  opens        : List OpenAnswer
  closes       : List Ack
  pollReads    : List Ack
  pollWrites   : List PollAnswer
  reads        : List ReadAnswer
  writes       : List Ack
  deriving DecidableEq, Repr, Inhabited

/-- What the history records (R45, R46). -/
inductive Event where
  | request (who : Agent) (i : Instr)      -- an operation with its operands, as it is issued
  | illegal (who : Agent) (op : Byte)      -- a request with a reserved code
  | response (who : Agent) (r : Response)
  | hold                                   -- CLAIM_FULL held (R156)
  | refused (who : Agent)                  -- R255
  | fault (who : Agent) (c : FaultCode)    -- R252
  | wake                                   -- R45
  | rxEvent                                -- R45
  | injected (w : WireBytes)               -- WIRE_RX grew at its tail
  | opening (cfg : Option CfgName)         -- env.open(cfg) is asked: the name CFG holds is handed over (R32)
  | fresh (ws : List WireBytes)            -- WIRE_RX grew by what a fresh link held
  | taken (w : WireBytes)                  -- INTAKE removed the head of WIRE_RX
  | lost (w : WireBytes)                   -- the environment dropped a frame of WIRE_RX
  | sent (w : WireBytes)                   -- WIRE_TX grew
  deriving DecidableEq, Repr

/-- Why the machine stops. CANCF's own faults (R240) are no stops: they are next states (R252). -/
inductive Fault where
  /-- Raised by SLOT_WRITE, PUBLISH, CLAIM_FULL, SLOT_READ, the steps of INTAKE and RECEIVE that do the same, and the
  completion of a held CLAIM_FULL, when the cursor they use names an index outside the slot array ("index >= N:
  nothing", R69). Only in states R26 rules out. Safe (log 15). -/
  | slotOutside
  deriving DecidableEq, Repr

/-- Why a request has no meaning in this model. -/
inductive Refusal where
  /-- An operation that has no meaning yet, raised by `exec`'s arm alone. Safe. -/
  | notModelled (mnemonic : String)
  deriving DecidableEq, Repr

/-- The state of one instance. -/
structure State where
  /-- The instance's parameters (R6), written by no step. -/
  params : Config
  /-- `LSTATE` (R30). -/
  lstate : LState
  /-- `LINK` (R31). -/
  link : Bool
  /-- `CFG` (R32). -/
  cfg : Option CfgName
  /-- `FAULT` (R33). -/
  fault : BitVec 8
  /-- `WR` (R23; log 16). -/
  wr : Nat
  /-- `RD` (R24; log 16). -/
  rd : Nat
  /-- `COUNT` (R25; log 16). -/
  count : Nat
  /-- `PCLAIM` (R27). -/
  pclaim : Bool
  /-- `CCLAIM` (R27). -/
  cclaim : Bool
  /-- `CWAIT` (R35). -/
  cwait : Bool
  /-- `CTMO` (R35). -/
  ctmo : Word32
  /-- `SLOT[i]` and `SIZE[i]` (R20 to R22). -/
  slots : Memory
  /-- The mark that a refused request was met (R255). -/
  refusedMet : Bool
  /-- The producer's port. -/
  portP : Port
  /-- The consumer's port. -/
  portC : Port
  /-- The application's port. -/
  portA : Port
  /-- The TRANSMITs of application threads that stand between two steps while another thread acts through port A, each
  at its stage (R11, R67, R287; log 12). -/
  transmits : List Stage
  /-- The wire side (R39, R40, R258). -/
  env : Env
  /-- The port being served (model's own, log 5). -/
  turn : Turn
  /-- The moves to come; where the list is empty the move is free (model's own, log 5). -/
  schedule : List Move
  /-- The index of the next free value (model's own, log 4). -/
  draws : Nat
  /-- The history, newest first (R46; log 18). -/
  history : List Event
  deriving DecidableEq, Repr

/-- A port with nothing to issue and nothing in progress. -/
def Port.quiet : Port := ⟨[], .idle⟩

/-- A wire side with empty queues and no answer fixed in advance. -/
def Env.quiet : Env := ⟨[], [], [], [], [], [], [], []⟩

/-- An instance built with the parameters `c`, right after hardware reset (R280). LINK, the cursors, the flags, CTMO
and the wire side's queues are values the model names (log 2). -/
def State.resetWith (c : Config) : State where
  params := c
  lstate := .uninit
  link := false
  cfg := none
  fault := 0
  wr := 0
  rd := 0
  count := 0
  pclaim := false
  cclaim := false
  cwait := false
  ctmo := 0
  slots := List.replicate c.n ⟨none, none⟩
  refusedMet := false
  portP := Port.quiet
  portC := Port.quiet
  portA := Port.quiet
  transmits := []
  env := Env.quiet
  turn := ⟨.a, 0⟩
  schedule := []
  draws := 0
  history := []

/-- The machine right after hardware reset, with the default parameters (R6, R280). -/
def State.reset : State := State.resetWith Config.default

end Sys2Proof.Machine
end

