-- ==== Sys2Proof/Machine/Flags.lean ====
section
/-! DEFINITION. The derived status conditions (10_state R28, R34). CANCF has no condition codes: no operation writes a
flag as a side effect of arithmetic; the stored flags are PCLAIM, CCLAIM and CWAIT. -/

namespace Sys2Proof.Machine

/-- `RING_FULL` (R34). -/
def ringFull (s : State) : Bool := decide (s.count = s.params.n)

/-- `RING_EMPTY` (R34). -/
def ringEmpty (s : State) : Bool := decide (s.count = 0)

/-- `RX_NONEMPTY` (R34). -/
def rxNonempty (s : State) : Bool := decide (s.count > 0)

/-- The four slot states (R28). -/
inductive SlotState where
  | draining
  | full
  | filling
  | empty
  deriving DecidableEq, Repr

/-- The distance of slot `i` from the read position, `(i - RD) mod N` (R28). -/
def slotOffset (s : State) (i : Nat) : Nat := (i + s.params.n - s.rd) % s.params.n

/-- `slot_state(i)` (R28). -/
def slotState (s : State) (i : Nat) : SlotState :=
  if s.cclaim = true ∧ i = s.rd then .draining
  else if slotOffset s i < s.count then .full
  else if s.pclaim = true ∧ i = s.wr then .filling
  else .empty

/-- R158, R280: the consumer is held. CWAIT holds no value a rule may read before INIT. -/
def consumerHeld (s : State) : Bool := s.cwait && decide (s.lstate ≠ .uninit)

/-- The ring is set up: LSTATE is STOPPED or READY (R150). -/
def ringUsable (s : State) : Bool := decide (s.lstate = .stopped) || decide (s.lstate = .ready)

/-- A claim is outstanding or a consumer is held: what START and STOP fault on (R221, R222). -/
def lifecycleBusy (s : State) : Bool := s.pclaim || s.cclaim || s.cwait

end Sys2Proof.Machine
end

