-- ==== Sys2Proof/WellFormed.lean ====
section
/-! DEFINITION. What the spec asks of the operand values of a request. CANCF decodes and runs an ill-formed request
as the rules say (a fault, a refusal, or, for a length above 8 and a name this check does not take, unchanged carriage): these
checks are the caller's side of the contract (R91, R101, R105, R221, R294). -/

namespace Sys2Proof

/-- R101: a slot reference is an index below the capacity `n`. -/
def slotValid (n : Nat) (slot : Byte) : Bool := decide (slot.toNat < n)

/-- R101: a size is a byte count from 1 to `SLOT_BYTES` = 13. -/
def sizeValid (size : Byte) : Bool := decide (1 ≤ size.toNat ∧ size.toNat ≤ 13)

/-- R105: mailbox 0 is the one valid index. -/
def mboxValid (mbox : Byte) : Bool := mbox == 0

/-- R91, R294: a valid frame has a length of at most 8. -/
def frameValid (f : InternalFrame) : Bool := decide (f.len.toNat ≤ 8)

/-- Byte `k` of an interface name (R221). -/
def nameByte (cfg : CfgName) (k : Nat) : Byte := cfg.extractLsb' (8 * k) 8

/-- R101, R221: a name of 1 to 16 bytes whose bytes past its end are zero. DESIGN CHOICE (log 20): the spec leaves open
whether a name may hold a zero byte inside it; here it may not, so the first zero byte is past its end: byte 0 is not
zero, and no non-zero byte follows a zero byte. No step reads this check. -/
def cfgValid (cfg : CfgName) : Bool :=
  nameByte cfg 0 != 0 &&
    (List.range 15).all fun k => nameByte cfg k != 0 || nameByte cfg (k + 1) == 0

/-- The operands of `i` are ones the spec calls valid, on an instance of capacity `n`. -/
def Instr.wellFormed (n : Nat) : Instr → Bool
  | .init => true
  | .start cfg => cfgValid cfg
  | .stop => true
  | .sleep => true
  | .wakeup => true
  | .encode f => frameValid f
  | .decode _ => true
  | .claimEmpty => true
  | .slotWrite slot f => slotValid n slot && frameValid f
  | .publish slot size => slotValid n slot && sizeValid size
  | .claimFull _ => true
  | .slotRead slot => slotValid n slot
  | .release slot => slotValid n slot
  | .intake => true
  | .receive mbox => mboxValid mbox
  | .transmit mbox f => mboxValid mbox && frameValid f
  | .isRxNonempty mbox => mboxValid mbox
  | .isTxReady mbox => mboxValid mbox
  | .abort mbox => mboxValid mbox

end Sys2Proof
end

