-- ==== Sys2Proof/Decode.lean ====
section
/-! DEFINITION. Decoding a request (30_encoding R92, R95, R99 to R103) and, after it, encoding one. The packing of an
Internal Frame on a port (R92), the numbering of a serialised Wire Frame on a port (R95, last sentence), the
operation map (R100), and the linear form "op byte, then the operand values of the format" of 95_test_vectors
section 8, which only `decodeTableWord` and the placing of a request use (log 7). -/

namespace Sys2Proof

/-! ## Frames on a port -/

/-- Byte `k` of a value, bits `8k+7 : 8k` (R8). -/
def byteOf {w : Nat} (v : BitVec w) (k : Nat) : Byte := v.extractLsb' (8 * k) 8

/-- R92: the payload on the port, `DATA[k]` at bits `8k+7 : 8k` of the payload field. -/
def packPayload (d : Payload) : BitVec 64 :=
  d[7] ++ d[6] ++ d[5] ++ d[4] ++ d[3] ++ d[2] ++ d[1] ++ d[0]

/-- R92: the payload read back from its field. -/
def unpackPayload (v : BitVec 64) : Payload := Vector.ofFn fun k => byteOf v k.val

/-- R92: an Internal Frame as one 104-bit value: bit 0 `ERR`, bit 1 `RTR`, bit 2 `EXT`, 31:3 `ID`, 39:32 `LEN`,
103:40 `DATA`. -/
def packFrame (f : InternalFrame) : BitVec 104 :=
  packPayload f.data ++ f.len ++ f.id ++ BitVec.ofBool f.ext ++ BitVec.ofBool f.rtr ++ BitVec.ofBool f.err

/-- R92: the Internal Frame a 104-bit value holds. -/
def unpackFrame (v : BitVec 104) : InternalFrame where
  err  := v.getLsbD 0
  rtr  := v.getLsbD 1
  ext  := v.getLsbD 2
  id   := v.extractLsb' 3 29
  len  := v.extractLsb' 32 8
  data := unpackPayload (v.extractLsb' 40 64)

/-- R95: a serialised Wire Frame as one 128-bit value, `WB[k]` at bits `8k+7 : 8k`: bytes 8 to 15 above bytes 0 to 7,
each half numbered as a payload is. -/
def packWire (w : WireBytes) : BitVec 128 :=
  packPayload (Vector.ofFn fun k => w[8 + k.val]) ++ packPayload (Vector.ofFn fun k => w[k.val])

/-- R95: the 16 bytes a 128-bit value holds. -/
def unpackWire (v : BitVec 128) : WireBytes := Vector.ofFn fun k => byteOf v k.val

/-! ## The operation map (R100) -/

/-- Why a request names no operation. -/
inductive DecodeError where
  /-- R103: the operation code is not one of the nineteen of R100. -/
  | reservedOp (op : Byte)
  deriving DecidableEq, Repr

/-- R99, R100: the format of an operation code, if it is assigned. -/
def formatOf (op : Byte) : Option Format :=
  match op.toNat with
  | 0x00 => some .none
  | 0x01 => some .cfg
  | 0x02 => some .none
  | 0x03 => some .none
  | 0x04 => some .none
  | 0x10 => some .frame
  | 0x11 => some .wire
  | 0x20 => some .none
  | 0x21 => some .slotFrame
  | 0x22 => some .slotSize
  | 0x23 => some .timeout
  | 0x24 => some .slot
  | 0x25 => some .slot
  | 0x30 => some .none
  | 0x31 => some .mbox
  | 0x32 => some .mboxFrame
  | 0x33 => some .mbox
  | 0x34 => some .mbox
  | 0x35 => some .mbox
  | _ => none

/-- R100, R103: the operation a request names, total on every request; a reserved code is rejected by name. -/
def decode (r : Request) : Except DecodeError Instr :=
  match r.op.toNat with
  | 0x00 => .ok .init
  | 0x01 => .ok (.start r.cfg)
  | 0x02 => .ok .stop
  | 0x03 => .ok .sleep
  | 0x04 => .ok .wakeup
  | 0x10 => .ok (.encode (unpackFrame r.frame))
  | 0x11 => .ok (.decode (unpackWire r.wire))
  | 0x20 => .ok .claimEmpty
  | 0x21 => .ok (.slotWrite r.slot (unpackFrame r.frame))
  | 0x22 => .ok (.publish r.slot r.size)
  | 0x23 => .ok (.claimFull r.timeout)
  | 0x24 => .ok (.slotRead r.slot)
  | 0x25 => .ok (.release r.slot)
  | 0x30 => .ok .intake
  | 0x31 => .ok (.receive r.mbox)
  | 0x32 => .ok (.transmit r.mbox (unpackFrame r.frame))
  | 0x33 => .ok (.isRxNonempty r.mbox)
  | 0x34 => .ok (.isTxReady r.mbox)
  | 0x35 => .ok (.abort r.mbox)
  | _ => .error (.reservedOp r.op)

/-! ## The linear form of a request (95_test_vectors section 8) -/

/-- The request whose op byte is the lowest byte of `w` and whose operand values follow it, each port of the format
in the order R99 lists them (log 7). -/
def requestOfWord (w : Nat) : Request :=
  let op : Byte := BitVec.ofNat 8 w
  let v := w >>> 8
  match formatOf op with
  | some .cfg => { op := op, cfg := BitVec.ofNat 128 v }
  | some .frame => { op := op, frame := BitVec.ofNat 104 v }
  | some .wire => { op := op, wire := BitVec.ofNat 128 v }
  | some .slotFrame => { op := op, slot := BitVec.ofNat 8 v, frame := BitVec.ofNat 104 (v >>> 8) }
  | some .slotSize => { op := op, slot := BitVec.ofNat 8 v, size := BitVec.ofNat 8 (v >>> 8) }
  | some .slot => { op := op, slot := BitVec.ofNat 8 v }
  | some .timeout => { op := op, timeout := BitVec.ofNat 32 v }
  | some .mbox => { op := op, mbox := BitVec.ofNat 8 v }
  | some .mboxFrame => { op := op, mbox := BitVec.ofNat 8 v, frame := BitVec.ofNat 104 (v >>> 8) }
  | some .none => { op := op }
  | none => { op := op }

/-- The operation the decoder reads from the word `w` of `nbits` bits, every bit above them zero. -/
def decodeTableWord (nbits w : Nat) : Option Instr :=
  match decode (requestOfWord (w % 2 ^ nbits)) with
  | .ok i => some i
  | .error _ => none

/-! ## The encoder (R99, R100) -/

/-- R100: the operation code. -/
def Instr.opcode : Instr → Byte
  | .init => 0x00
  | .start _ => 0x01
  | .stop => 0x02
  | .sleep => 0x03
  | .wakeup => 0x04
  | .encode _ => 0x10
  | .decode _ => 0x11
  | .claimEmpty => 0x20
  | .slotWrite _ _ => 0x21
  | .publish _ _ => 0x22
  | .claimFull _ => 0x23
  | .slotRead _ => 0x24
  | .release _ => 0x25
  | .intake => 0x30
  | .receive _ => 0x31
  | .transmit _ _ => 0x32
  | .isRxNonempty _ => 0x33
  | .isTxReady _ => 0x34
  | .abort _ => 0x35

/-- R99, R100: the format column of the operation map. -/
def Instr.format : Instr → Format
  | .init => .none
  | .start _ => .cfg
  | .stop => .none
  | .sleep => .none
  | .wakeup => .none
  | .encode _ => .frame
  | .decode _ => .wire
  | .claimEmpty => .none
  | .slotWrite _ _ => .slotFrame
  | .publish _ _ => .slotSize
  | .claimFull _ => .timeout
  | .slotRead _ => .slot
  | .release _ => .slot
  | .intake => .none
  | .receive _ => .mbox
  | .transmit _ _ => .mboxFrame
  | .isRxNonempty _ => .mbox
  | .isTxReady _ => .mbox
  | .abort _ => .mbox

/-- The request that names `i`, every port its format does not name at zero. -/
def encode (i : Instr) : Request :=
  match i with
  | .start cfg => { op := i.opcode, cfg := cfg }
  | .encode f => { op := i.opcode, frame := packFrame f }
  | .decode w => { op := i.opcode, wire := packWire w }
  | .slotWrite slot f => { op := i.opcode, slot := slot, frame := packFrame f }
  | .publish slot size => { op := i.opcode, slot := slot, size := size }
  | .claimFull timeout => { op := i.opcode, timeout := timeout }
  | .slotRead slot => { op := i.opcode, slot := slot }
  | .release slot => { op := i.opcode, slot := slot }
  | .receive mbox => { op := i.opcode, mbox := mbox }
  | .transmit mbox f => { op := i.opcode, mbox := mbox, frame := packFrame f }
  | .isRxNonempty mbox => { op := i.opcode, mbox := mbox }
  | .isTxReady mbox => { op := i.opcode, mbox := mbox }
  | .abort mbox => { op := i.opcode, mbox := mbox }
  | .init => { op := i.opcode }
  | .stop => { op := i.opcode }
  | .sleep => { op := i.opcode }
  | .wakeup => { op := i.opcode }
  | .claimEmpty => { op := i.opcode }
  | .intake => { op := i.opcode }

/-- The linear form of a request: the op byte, then the operand values of its format (log 7). -/
def wordOfRequest (r : Request) : Nat :=
  r.op.toNat +
    (match formatOf r.op with
      | some .cfg => r.cfg.toNat
      | some .frame => r.frame.toNat
      | some .wire => r.wire.toNat
      | some .slotFrame => r.slot.toNat + r.frame.toNat * 2 ^ 8
      | some .slotSize => r.slot.toNat + r.size.toNat * 2 ^ 8
      | some .slot => r.slot.toNat
      | some .timeout => r.timeout.toNat
      | some .mbox => r.mbox.toNat
      | some .mboxFrame => r.mbox.toNat + r.frame.toNat * 2 ^ 8
      | some .none => 0
      | none => 0) * 2 ^ 8

/-- How many bits the linear form of `i` has. -/
def Instr.bits (i : Instr) : Nat :=
  match i.format with
  | .none => 8
  | .cfg => 8 + 128
  | .frame => 8 + 104
  | .wire => 8 + 128
  | .slotFrame => 8 + 8 + 104
  | .slotSize => 8 + 8 + 8
  | .slot => 8 + 8
  | .timeout => 8 + 32
  | .mbox => 8 + 8
  | .mboxFrame => 8 + 8 + 104

/-- R99: the request with every port that the format of its code does not name set to zero: what the hardware reads
of it. -/
def readPorts (r : Request) : Request :=
  match formatOf r.op with
  | some .cfg => { op := r.op, cfg := r.cfg }
  | some .frame => { op := r.op, frame := r.frame }
  | some .wire => { op := r.op, wire := r.wire }
  | some .slotFrame => { op := r.op, slot := r.slot, frame := r.frame }
  | some .slotSize => { op := r.op, slot := r.slot, size := r.size }
  | some .slot => { op := r.op, slot := r.slot }
  | some .timeout => { op := r.op, timeout := r.timeout }
  | some .mbox => { op := r.op, mbox := r.mbox }
  | some .mboxFrame => { op := r.op, mbox := r.mbox, frame := r.frame }
  | some .none => { op := r.op }
  | none => { op := r.op }

end Sys2Proof
end

