-- ==== Sys2Proof/Machine/Operands.lean ====
section
/-! DEFINITION. Operand forms, data formats and codes: the bytes of a serialised Wire Frame (20_memory R60, 30_encoding
R95 to R97), the Frame Codec (R93, R94, R98, 40_codec R131, R133), the payload's word views (R62), the readings of a
mailbox, a timeout and a slot reference (R101, R105), and the numeric codes of R30, R102 and R240. -/

namespace Sys2Proof.Machine

/-! ## The bytes of a serialised Wire Frame (R60) -/

/-- `WB[k]`; an offset outside 0..15 is no byte of the frame and is never named (R69). -/
def wireByte (wb : WireBytes) (k : Nat) : Byte := wb[k]?.getD 0

/-- `MemRead(addr, n)` (R60): `n` bytes as one value, the byte at `addr` least significant in little order and most
significant in big order. -/
def memRead (o : ByteOrder) (wb : WireBytes) (addr : Nat) : (n : Nat) → BitVec (8 * n)
  | 0 => 0
  | n + 1 =>
    match o with
    | .little => memRead o wb (addr + 1) n ++ wireByte wb addr
    | .big => memRead o wb addr n ++ wireByte wb (addr + n)

/-- The byte of an `8n`-bit value that R60 puts at `addr + k`. -/
def orderedByte (o : ByteOrder) {w : Nat} (n : Nat) (v : BitVec w) (k : Nat) : Byte :=
  match o with
  | .little => byteOf v k
  | .big => byteOf v (n - 1 - k)

/-- `MemWrite(addr, n, v)` (R60). -/
def memWrite (o : ByteOrder) (wb : WireBytes) (addr n : Nat) (v : BitVec (8 * n)) : WireBytes :=
  Vector.ofFn fun j =>
    if addr ≤ j.val ∧ j.val < addr + n then orderedByte o n v (j.val - addr) else wb[j]

/-- Serialising (R96): the identifier at offset 0, the length at 4, zero padding at 5 to 7, the payload at 8. -/
def serialise (o : ByteOrder) (w : WireFrame) : WireBytes :=
  let zeros : WireBytes := Vector.replicate 16 0
  let wb := (memWrite o zeros 0 4 w.wid).set 4 w.wlen
  Vector.ofFn fun j => if h : 8 ≤ j.val then w.wdata[j.val - 8] else wb[j]

/-- Deserialising (R97); the padding bytes are not read. -/
def deserialise (o : ByteOrder) (wb : WireBytes) : WireFrame where
  wid   := memRead o wb 0 4
  wlen  := wb[4]
  wdata := Vector.ofFn fun k => wb[8 + k.val]

/-! ## The Frame Codec (R93, R94, R98) -/

/-- Bit of `WID` that says extended format (R93). -/
def extPos : Nat := 31

/-- Bit of `WID` that says remote request (R93). -/
def rtrPos : Nat := 30

/-- Bit of `WID` that says error frame (R93). -/
def errPos : Nat := 29

/-- `EXT_BIT` (R94). -/
def extBit : Word32 := 1#32 <<< extPos

/-- `RTR_BIT` (R94). -/
def rtrBit : Word32 := 1#32 <<< rtrPos

/-- `ERR_BIT` (R94). -/
def errBit : Word32 := 1#32 <<< errPos

/-- `ID_MASK` (R94). -/
def idMask : Word32 := 0x1FFFFFFF

/-- `FLAG_MASK` (R94). -/
def flagMask : Word32 := extBit ||| rtrBit ||| errBit

/-- A flag as a 32-bit value, 0 or 1 (R8). -/
def flagWord (b : Bool) : Word32 := (BitVec.ofBool b).setWidth 32

/-- R131: the wire identifier of a frame. -/
def encodeWid (f : InternalFrame) : Word32 :=
  (flagWord f.ext <<< extPos) ||| (flagWord f.rtr <<< rtrPos) ||| (flagWord f.err <<< errPos) ||| f.id.setWidth 32

/-- `encode(internal)` (R131, R132), before serialisation: every payload byte and the length unchanged. -/
def encodeFrame (f : InternalFrame) : WireFrame where
  wid   := encodeWid f
  wlen  := f.len
  wdata := f.data

/-- `decode(wire)` (R133), after deserialisation: each flag from its own bit, the identifier masked to 29 bits. -/
def decodeFrame (w : WireFrame) : InternalFrame where
  err  := w.wid.getLsbD errPos
  rtr  := w.wid.getLsbD rtrPos
  ext  := w.wid.getLsbD extPos
  id   := (w.wid &&& idMask).setWidth 29
  len  := w.wlen
  data := w.wdata

/-- ENCODE's result (R131): the serialised frame. -/
def encodeBytes (o : ByteOrder) (f : InternalFrame) : WireBytes := serialise o (encodeFrame f)

/-- DECODE's result (R133): the frame of the bytes. -/
def decodeBytes (o : ByteOrder) (wb : WireBytes) : InternalFrame := decodeFrame (deserialise o wb)

/-- The 16-bit view of a payload, `DATA16[j]` (R62). -/
def data16 (d : Payload) (j : Fin 4) : BitVec 16 := d[2 * j.val + 1] ++ d[2 * j.val]

/-- The 32-bit view of a payload, `DATA32[j]` (R62). -/
def data32 (d : Payload) (j : Fin 2) : BitVec 32 :=
  d[4 * j.val + 3] ++ d[4 * j.val + 2] ++ d[4 * j.val + 1] ++ d[4 * j.val]

/-- The number of meaningful payload bytes, `min(LEN, 8)` (R91): no operation reads it. -/
def meaningfulBytes (f : InternalFrame) : Nat := min f.len.toNat 8

/-! ## Readings of an operand (R101, R105) -/

/-- The three treatments of a mailbox index (R105). -/
inductive MailboxReading where
  | valid
  | refused
  | invalid
  deriving DecidableEq, Repr

/-- R105: 0 valid, 1 refused, 2 to 255 invalid. -/
def readMailbox (mbox : Byte) : MailboxReading :=
  if mbox = 0 then .valid else if mbox = 1 then .refused else .invalid

/-- R101: a timeout of zero never holds. -/
def immediateTimeout : Word32 := 0

/-- R101: a timeout of all ones never expires. -/
def infiniteTimeout : Word32 := 0xFFFFFFFF

/-- R101: the slot reference of an index. -/
def slotRef (i : Nat) : Byte := BitVec.ofNat 8 i

/-- R153: the sizes PUBLISH takes. -/
def sizeAccepted (size : Byte) : Bool := decide (size ≠ 0) && decide (size.toNat ≤ slotBytes)

/-- The `size` INTAKE publishes with (R190 step 5). -/
def intakeSize : Byte := BitVec.ofNat 8 slotBytes

/-- R100: the agents whose port an operation belongs to. -/
def issuers : Instr → List Agent
  | .init => [.a]
  | .start _ => [.a]
  | .stop => [.a]
  | .sleep => [.a]
  | .wakeup => [.a]
  | .encode _ => [.a]
  | .decode _ => [.a, .p]
  | .claimEmpty => [.p]
  | .slotWrite _ _ => [.p]
  | .publish _ _ => [.p]
  | .claimFull _ => [.c]
  | .slotRead _ => [.c]
  | .release _ => [.c]
  | .intake => [.p]
  | .receive _ => [.c]
  | .transmit _ _ => [.a]
  | .isRxNonempty _ => [.c]
  | .isTxReady _ => [.a]
  | .abort _ => [.a]

/-- R257: whether `i` may be issued on the port of `who`. -/
def mayIssue (who : Agent) (i : Instr) : Bool := (issuers i).contains who

/-- The two execution contexts (R256). -/
inductive Context where
  | interruptEquivalent
  | thread
  deriving DecidableEq, Repr

/-- R256: the context of a request is known from the port it arrives on. -/
def contextOf : Agent → Context
  | .p => .interruptEquivalent
  | .c => .thread
  | .a => .thread

/-! ## Widths and codes -/

/-- The least `k` with `m ≤ 2 ^ k`: ceil(log2 m) for `m ≥ 1` (R6). -/
def ceilLog2 (m : Nat) : Nat := if m ≤ 1 then 0 else Nat.log2 (m - 1) + 1

/-- `PTR_BITS` (R6): the width of WR and RD. -/
def ptrBits (n : Nat) : Nat := max 1 (ceilLog2 n)

/-- `CNT_BITS` (R6): the width of COUNT. -/
def cntBits (n : Nat) : Nat := ceilLog2 (n + 1)

/-- The value of `LSTATE` (R30). -/
def lstateCode : LState → BitVec 2
  | .uninit => 0
  | .stopped => 1
  | .ready => 2
  | .halted => 3

/-- The 8-bit fault codes (R240). -/
def faultCode : FaultCode → BitVec 8
  | .openFailure => 0x01
  | .resolveFailure => 0x02
  | .bindFailure => 0x03
  | .closeFailure => 0x04
  | .pollFailure => 0x05
  | .transmitFailure => 0x06
  | .receiveFailure => 0x07
  | .invalidMailbox => 0x10
  | .notReady => 0x11
  | .nullHandle => 0x12
  | .notInitialized => 0x13
  | .badLifecycle => 0x14
  | .concurrentLifecycle => 0x15
  | .doubleClaimEmpty => 0x20
  | .slotWriteNotOwned => 0x21
  | .publishNotClaimed => 0x22
  | .publishWrongSlot => 0x23
  | .publishBadSize => 0x24
  | .doubleClaimFull => 0x25
  | .slotReadNotOwned => 0x26
  | .releaseNotClaimed => 0x27
  | .releaseWrongSlot => 0x28
  | .unwrittenSlot => 0x29
  | .illegalOp => 0x30

/-- The codes a rule can write to `FAULT` (R240): every one but `NullHandle`, which nothing raises (R268). -/
def raisedCodes : List (BitVec 8) :=
  ([.openFailure, .resolveFailure, .bindFailure, .closeFailure, .pollFailure, .transmitFailure, .receiveFailure,
    .invalidMailbox, .notReady, .notInitialized, .badLifecycle, .concurrentLifecycle, .doubleClaimEmpty,
    .slotWriteNotOwned, .publishNotClaimed, .publishWrongSlot, .publishBadSize, .doubleClaimFull,
    .slotReadNotOwned, .releaseNotClaimed, .releaseWrongSlot, .unwrittenSlot, .illegalOp] : List FaultCode).map
    faultCode

/-- The 4-bit response codes (R102). -/
def responseCode : Response → BitVec 4
  | .ok => 0
  | .slot _ => 1
  | .slotSize _ _ => 1
  | .full => 2
  | .empty => 3
  | .frame _ => 4
  | .none => 5
  | .wire _ => 6
  | .bool _ => 7

end Sys2Proof.Machine
end

