-- ==== Sys2Proof/Machine/Ops.lean ====
section
/-! DEFINITION. The named operations every meaning is built from: the history, a port's stage, a response, a refusal
(60_exceptions R255), TAKING A FAULT (R252; there is no return from one, R253), the common checks of a request (R251
items 1 and 3 to 5), slot space (R69), and the six questions to the wire side (R258 to R262). -/

namespace Sys2Proof.Machine

/-- What a meaning answers. -/
abbrev Result := Host.Outcome State Fault Refusal

/-- Run `k` on the next state, if there is one. -/
def andThen (r : Result) (k : State → Result) : Result :=
  match r with
  | .next s => k s
  | .fault f => .fault f
  | .refused x => .refused x

/-! ## History and ports -/

/-- Record an event (R45, R46). -/
def State.log (s : State) (e : Event) : State := { s with history := e :: s.history }

/-- The port of an agent (R99). -/
def State.port (s : State) (who : Agent) : Port :=
  match who with
  | .p => s.portP
  | .c => s.portC
  | .a => s.portA

/-- Replace the port of an agent. -/
def State.setPort (s : State) (who : Agent) (p : Port) : State :=
  match who with
  | .p => { s with portP := p }
  | .c => { s with portC := p }
  | .a => { s with portA := p }

/-- Move an agent to a stage of its operation. -/
def State.setStage (s : State) (who : Agent) (st : Stage) : State :=
  s.setPort who { s.port who with stage := st }

/-! ## How an operation ends (R10) -/

/-- `return v` (R9): the response is driven on the issuer's port and the operation ends. -/
def State.respond (s : State) (who : Agent) (r : Response) : State :=
  (s.log (.response who r)).setStage who .idle

/-- R252: taking a fault. FAULT keeps the first code, LSTATE becomes HALTED, nothing else of CANCF is written; the
operation ends without a response. -/
def State.takeFault (s : State) (who : Agent) (c : FaultCode) : State :=
  ({ s with
      fault := if s.fault = 0 then faultCode c else s.fault
      lstate := .halted }.log (.fault who c)).setStage who .idle

/-- R255: a refused request or question gets no response and changes no state of CANCF; the mark is set (logs 1, 11). -/
def State.markRefused (s : State) (who : Agent) : State :=
  ({ s with refusedMet := true }.log (.refused who)).setStage who .idle

/-- End with a response. -/
def respond (who : Agent) (r : Response) (s : State) : Result := .next (s.respond who r)

/-- `raise` (R9, R252). -/
def raise (who : Agent) (c : FaultCode) (s : State) : Result := .next (s.takeFault who c)

/-- End with a refusal (R255). -/
def refuse (who : Agent) (s : State) : Result := .next (s.markRefused who)

/-! ## The common checks of a request (R251) -/

/-- A request for `i` on the port being served: it is recorded, refused in HALTED (item 1) and on a port that may not
issue it (item 3), and else goes on to `body`. -/
def request (i : Instr) (body : Agent → State → Result) (s : State) : Result :=
  let who := s.turn.agent
  let s' := s.log (.request who i)
  if s.lstate = .halted then refuse who s'
  else if mayIssue who i = true then body who s'
  else refuse who s'

/-- A request with a reserved code (R250, R251 items 1 and 2). -/
def illegalRequest (op : Byte) (s : State) : Result :=
  let who := s.turn.agent
  let s' := s.log (.illegal who op)
  if s.lstate = .halted then refuse who s' else raise who .illegalOp s'

/-- R228: the operations that need an initialised instance fault in UNINIT. -/
def needInit (who : Agent) (k : State → Result) (s : State) : Result :=
  if s.lstate = .uninit then raise who .notInitialized s else k s

/-- R199, R228: the operations that need READY fault elsewhere. -/
def needReady (who : Agent) (k : State → Result) (s : State) : Result :=
  if s.lstate = .ready then k s else raise who .notReady s

/-- R105, R251 item 5: the mailbox check. -/
def needMailbox (who : Agent) (mbox : Byte) (k : State → Result) (s : State) : Result :=
  match readMailbox mbox with
  | .valid => k s
  | .refused => refuse who s
  | .invalid => raise who .invalidMailbox s

/-! ## Slot space (R38, R69) -/

/-- The form of slot space: one slot per index below `n`, and no more. -/
def Memory.wf (n : Nat) (m : Memory) : Bool := m.length == n

/-- The slot a cursor names, for an access; outside the array there is nothing (R69; log 15). -/
def withSlot (i : Nat) (k : Slot → State → Result) (s : State) : Result :=
  match s.slots[i]? with
  | some slot => k slot s
  | none => .fault .slotOutside

/-- `SLOT[i] <- f` (R9). -/
def State.putFrame (s : State) (i : Nat) (f : InternalFrame) : State :=
  { s with slots := s.slots.modify i fun slot => { slot with frame := some f } }

/-- `SIZE[i] <- z` (R22). -/
def State.putSize (s : State) (i : Nat) (z : Byte) : State :=
  { s with slots := s.slots.modify i fun slot => { slot with size := some z } }

/-- What `SLOT[i]` holds: a frame, or `none` when nothing has written it or there is no such slot. -/
def State.frameAt (s : State) (i : Nat) : Option InternalFrame :=
  match s.slots[i]? with
  | some slot => slot.frame
  | none => none

/-- What `SIZE[i]` holds. -/
def State.sizeAt (s : State) (i : Nat) : Option Byte :=
  match s.slots[i]? with
  | some slot => slot.size
  | none => none

/-- The next position of a cursor, `(x + 1) mod N` (R23, R24, R165). -/
def State.bump (s : State) (x : Nat) : Nat := (x + 1) % s.params.n

/-! ## The wire side (R258 to R262) -/

/-- One answer: the first of those already given, else a free value at the draw counter (log 4). -/
def drawFrom {α : Type} (given : List α) (free : Nat → α) (k : Nat) : α × List α × Nat :=
  match given with
  | x :: rest => (x, rest, k)
  | [] => (free k, [], k + 1)

/-- R287: every question but `env.open` is refused while LINK = 0. -/
def whileLinked (who : Agent) (k : State → Result) (s : State) : Result :=
  if s.link = true then k s else refuse who s

/-- `env.open(cfg)` (R259): the environment is handed the name CFG holds (R32, R37). -/
def askOpen (k : OpenAnswer → State → Result) (s : State) : Result :=
  let d := drawFrom s.env.opens (Config.freeOpen s.cfg) s.draws
  k d.1 ({ s with env := { s.env with opens := d.2.1 }, draws := d.2.2 }.log (.opening s.cfg))

/-- `env.close()` (R260). -/
def askClose (who : Agent) (k : Ack → State → Result) (s : State) : Result :=
  whileLinked who (fun s =>
    let d := drawFrom s.env.closes Config.freeClose s.draws
    k d.1 { s with env := { s.env with closes := d.2.1 }, draws := d.2.2 }) s

/-- `env.poll_readable()` (R261): unless the poll itself fails, true exactly when WIRE_RX is not empty. -/
def askPollReadable (who : Agent) (k : PollAnswer → State → Result) (s : State) : Result :=
  whileLinked who (fun s =>
    let d := drawFrom s.env.pollReads Config.freePollReadable s.draws
    let answer : PollAnswer :=
      match d.1 with
      | .failed => .failed
      | .ok => if s.env.wireRx = [] then .no else .yes
    k answer { s with env := { s.env with pollReads := d.2.1 }, draws := d.2.2 }) s

/-- `env.poll_writable()` (R261). -/
def askPollWritable (who : Agent) (k : PollAnswer → State → Result) (s : State) : Result :=
  whileLinked who (fun s =>
    let d := drawFrom s.env.pollWrites Config.freePollWritable s.draws
    k d.1 { s with env := { s.env with pollWrites := d.2.1 }, draws := d.2.2 }) s

/-- The head of WIRE_RX is gone from it (R40). -/
def State.dropHead (s : State) (w : WireBytes) (rest : List WireBytes) (e : WireBytes → Event) : State :=
  { s with env := { s.env with wireRx := rest } }.log (e w)

/-- `env.read_frame()` (R262): the head of WIRE_RX, which is removed, or `none` for a failure. A failed read may have
lost the head (R244; log 9); with WIRE_RX empty there is no frame to give and the read fails (log 8). -/
def askRead (who : Agent) (k : Option WireBytes → State → Result) (s : State) : Result :=
  whileLinked who (fun s =>
    let d := drawFrom s.env.reads Config.freeRead s.draws
    let s := { s with env := { s.env with reads := d.2.1 }, draws := d.2.2 }
    match d.1, s.env.wireRx with
    | .ok, w :: rest => k (some w) (s.dropHead w rest .taken)
    | .failed true, w :: rest => k none (s.dropHead w rest .lost)
    | .failed false, _ :: _ => k none s
    | _, [] => k none s) s

/-- `env.write_frame(WB)` (R262): on `ok` the frame is the newest of WIRE_TX (R39). -/
def askWrite (who : Agent) (w : WireBytes) (k : Ack → State → Result) (s : State) : Result :=
  whileLinked who (fun s =>
    let d := drawFrom s.env.writes (Config.freeWrite w) s.draws
    let s := { s with env := { s.env with writes := d.2.1 }, draws := d.2.2 }
    match d.1 with
    | .ok => k .ok ({ s with env := { s.env with wireTx := s.env.wireTx ++ [w] } }.log (.sent w))
    | .failed => k .failed s) s

end Sys2Proof.Machine
end

