-- ==== Sys2Proof/Machine/Codec.lean ====
section
/-! DEFINITION. The Frame Codec operations (40_codec R130 to R134): pure, total, legal in every state but HALTED. -/

namespace Sys2Proof.Machine

/-- ENCODE (R131). -/
def execEncode (f : InternalFrame) (s : State) : Result :=
  request (.encode f) (fun who s => respond who (.wire (encodeBytes s.params.wireByteOrder f)) s) s

/-- DECODE (R133). -/
def execDecode (w : WireBytes) (s : State) : Result :=
  request (.decode w) (fun who s => respond who (.frame (decodeBytes s.params.wireByteOrder w)) s) s

end Sys2Proof.Machine
end

