-- ==== Sys2Proof/Machine/Ring.lean ====
section
/-! DEFINITION. The RX Ring Buffer operations (41_fifo R150 to R159). Each primitive is written once, with what is done
with its answer as an argument, so that INTAKE and RECEIVE use the same one (42_datapath R190, R192). Checks stand in
the order of the pseudocode (R160). -/

namespace Sys2Proof.Machine

/-- CLAIM_EMPTY (R151): `none` is FULL. -/
def claimEmpty (who : Agent) (k : Option Byte → State → Result) (s : State) : Result :=
  if s.pclaim = true then raise who .doubleClaimEmpty s
  else if ringFull s = true then k none s
  else k (some (slotRef s.wr)) { s with pclaim := true }

/-- SLOT_WRITE (R152). -/
def slotWrite (who : Agent) (slot : Byte) (f : InternalFrame) (k : State → Result) (s : State) : Result :=
  if s.pclaim = false ∨ slot.toNat ≠ s.wr then raise who .slotWriteNotOwned s
  else withSlot s.wr (fun _ s => k (s.putFrame s.wr f)) s

/-- R153: what PUBLISH writes, and its event. -/
def State.published (s : State) (size : Byte) : State :=
  { s.putSize s.wr size with
    count := s.count + 1
    wr := s.bump s.wr
    pclaim := false }.log .wake

/-- PUBLISH (R153). -/
def publish (who : Agent) (slot size : Byte) (k : State → Result) (s : State) : Result :=
  if s.pclaim = false then raise who .publishNotClaimed s
  else if slot.toNat ≠ s.wr then raise who .publishWrongSlot s
  else if sizeAccepted size = false then raise who .publishBadSize s
  else withSlot s.wr (fun _ s => k (s.published size)) s

/-- What a CLAIM_FULL comes to in the step that issues it (R156). -/
inductive ClaimAnswer where
  | slot (s : Byte) (size : Option Byte)
  | empty
  deriving DecidableEq, Repr

/-- R156: the consumer is held; the operation goes on by R158. -/
def State.hold (s : State) (timeout : Word32) : State :=
  { s with cwait := true, ctmo := timeout }.log .hold

/-- CLAIM_FULL, issue (R156). -/
def claimFull (who : Agent) (timeout : Word32) (k : ClaimAnswer → State → Result) (s : State) : Result :=
  if s.cclaim = true then raise who .doubleClaimFull s
  else if ringEmpty s = false then
    withSlot s.rd (fun slot s => k (.slot (slotRef s.rd) slot.size) { s with cclaim := true }) s
  else if timeout = immediateTimeout then k .empty s
  else .next (s.hold timeout)

/-- SLOT_READ (R159). -/
def slotRead (who : Agent) (slot : Byte) (k : InternalFrame → State → Result) (s : State) : Result :=
  if s.cclaim = false ∨ slot.toNat ≠ s.rd then raise who .slotReadNotOwned s
  else
    withSlot s.rd (fun cell s =>
      match cell.frame with
      | none => raise who .unwrittenSlot s
      | some f => k f s) s

/-- R157: what RELEASE writes; the slot keeps its frame and its size. -/
def State.released (s : State) : State :=
  { s with count := s.count - 1, rd := s.bump s.rd, cclaim := false }

/-- RELEASE (R157). -/
def release (who : Agent) (slot : Byte) (k : State → Result) (s : State) : Result :=
  if s.cclaim = false then raise who .releaseNotClaimed s
  else if slot.toNat ≠ s.rd then raise who .releaseWrongSlot s
  else k s.released

/-- The operation CLAIM_EMPTY (R150, R151). -/
def execClaimEmpty (s : State) : Result :=
  request .claimEmpty (fun who =>
    needInit who (claimEmpty who fun answer s =>
      match answer with
      | some slot => respond who (.slot slot) s
      | none => respond who .full s)) s

/-- The operation SLOT_WRITE (R150, R152). -/
def execSlotWrite (slot : Byte) (f : InternalFrame) (s : State) : Result :=
  request (.slotWrite slot f) (fun who => needInit who (slotWrite who slot f (respond who .ok))) s

/-- The operation PUBLISH (R150, R153). -/
def execPublish (slot size : Byte) (s : State) : Result :=
  request (.publish slot size) (fun who => needInit who (publish who slot size (respond who .ok))) s

/-- The operation CLAIM_FULL (R150, R156). -/
def execClaimFull (timeout : Word32) (s : State) : Result :=
  request (.claimFull timeout) (fun who =>
    needInit who (claimFull who timeout fun answer s =>
      match answer with
      | .slot slot size => respond who (.slotSize slot size) s
      | .empty => respond who .empty s)) s

/-- The operation SLOT_READ (R150, R159). -/
def execSlotRead (slot : Byte) (s : State) : Result :=
  request (.slotRead slot) (fun who =>
    needInit who (slotRead who slot fun f s => respond who (.frame f) s)) s

/-- The operation RELEASE (R150, R157). -/
def execRelease (slot : Byte) (s : State) : Result :=
  request (.release slot) (fun who => needInit who (release who slot (respond who .ok))) s

/-- R158, completion of a held CLAIM_FULL; where it is not enabled nothing happens (log 13). -/
def completeHeld (s : State) : Result :=
  if ringUsable s = true ∧ s.cwait = true ∧ s.count > 0 ∧ s.cclaim = false then
    withSlot s.rd (fun slot s =>
      respond .c (.slotSize (slotRef s.rd) slot.size) { s with cwait := false, cclaim := true }) s
  else .next s

/-- R158, expiry of a held CLAIM_FULL with a finite timeout; where it is not enabled nothing happens (log 13). -/
def expireHeld (s : State) : Result :=
  if ringUsable s = true ∧ s.cwait = true ∧ s.ctmo ≠ infiniteTimeout then
    respond .c .empty { s with cwait := false }
  else .next s

end Sys2Proof.Machine
end

