-- ==== Sys2Proof/Machine/Datapath.lean ====
section
/-! DEFINITION. The datapath operations (42_datapath R190 to R199). INTAKE, RECEIVE and TRANSMIT are composite: the
agent stands at a stage between two steps, and other agents' transitions may fall there (20_memory R67). `stageStep`
is one atomic step, a numbered line of the pseudocode (R191); `advance` takes as many as the turn allows. -/

namespace Sys2Proof.Machine

/-- One atomic step of the operation an agent has in progress (R190, R192, R194). -/
def stageStep (who : Agent) (st : Stage) (s : State) : Result :=
  match st with
  | .idle => .next s
  | .intakePoll =>
    askPollReadable who (fun answer s =>
      match answer with
      | .failed => raise who .pollFailure s
      | .no => respond who (.bool false) s
      | .yes => .next (s.setStage who .intakeRead)) s
  | .intakeRead =>
    askRead who (fun answer s =>
      match answer with
      | none => raise who .receiveFailure s
      | some w => .next (s.setStage who (.intakeDecode w))) s
  | .intakeDecode w => .next (s.setStage who (.intakeClaim (decodeBytes s.params.wireByteOrder w)))
  | .intakeClaim f =>
    claimEmpty who (fun answer s =>
      match answer with
      | none => respond who (.bool s.params.dropReportsActivity) s
      | some slot => .next (s.setStage who (.intakeStore slot f))) s
  | .intakeStore slot f =>
    slotWrite who slot f
      (publish who slot intakeSize fun s => .next ((s.log .rxEvent).setStage who .intakeReport)) s
  | .intakeReport => respond who (.bool true) s
  | .receiveClaim =>
    claimFull who immediateTimeout (fun answer s =>
      match answer with
      | .empty => respond who .none s
      | .slot slot _ => .next (s.setStage who (.receiveRead slot))) s
  | .receiveRead slot => slotRead who slot (fun f s => .next (s.setStage who (.receiveRelease slot f))) s
  | .receiveRelease slot f => release who slot (fun s => .next (s.setStage who (.receiveReply f))) s
  | .receiveReply f => respond who (.frame f) s
  | .transmitEncode f => .next (s.setStage who (.transmitWrite (encodeBytes s.params.wireByteOrder f)))
  | .transmitWrite w =>
    askWrite who w (fun answer s =>
      match answer with
      | .ok => .next (s.setStage who .transmitReply)
      | .failed => raise who .transmitFailure s) s
  | .transmitReply => respond who .ok s

/-- Up to `fuel` further atomic steps of the agent's operation in progress, until it ends. In HALTED no agent has a step
(R252): the remaining steps are never taken. -/
def advance (who : Agent) : Nat → State → Result
  | 0, s => .next s
  | fuel + 1, s =>
    if s.lstate = .halted ∨ (s.port who).stage = .idle then .next s
    else andThen (stageStep who (s.port who).stage s) (advance who fuel)

/-- Begin a composite operation at a stage, and take the steps the turn allows. -/
def begin (who : Agent) (st : Stage) (s : State) : Result :=
  advance who s.turn.steps (s.setStage who st)

/-- INTAKE (R190): step 0, then the steps the turn allows. -/
def execIntake (s : State) : Result :=
  request .intake (fun who s =>
    if s.lstate = .ready then begin who .intakePoll s else respond who (.bool false) s) s

/-- RECEIVE (R192): step 0, then the steps the turn allows. -/
def execReceive (mbox : Byte) (s : State) : Result :=
  request (.receive mbox) (fun who => needReady who (needMailbox who mbox (begin who .receiveClaim))) s

/-- TRANSMIT (R194): step 0, then the steps the turn allows. It asks for no readiness (R195). -/
def execTransmit (mbox : Byte) (f : InternalFrame) (s : State) : Result :=
  request (.transmit mbox f) (fun who => needReady who (needMailbox who mbox (begin who (.transmitEncode f)))) s

/-- IS_RX_NONEMPTY (R196). -/
def execIsRxNonempty (mbox : Byte) (s : State) : Result :=
  request (.isRxNonempty mbox) (fun who =>
    needReady who (needMailbox who mbox fun s => respond who (.bool (rxNonempty s)) s)) s

/-- IS_TX_READY (R197). -/
def execIsTxReady (mbox : Byte) (s : State) : Result :=
  request (.isTxReady mbox) (fun who =>
    needReady who (needMailbox who mbox (askPollWritable who fun answer s =>
      match answer with
      | .failed => raise who .pollFailure s
      | .yes => respond who (.bool true) s
      | .no => respond who (.bool false) s))) s

/-- ABORT (R198): no lifecycle check, the mailbox check, and nothing else. -/
def execAbort (mbox : Byte) (s : State) : Result :=
  request (.abort mbox) (fun who => needMailbox who mbox (respond who .ok)) s

end Sys2Proof.Machine
end

