-- ==== Sys2Proof/Machine/Lifecycle.lean ====
section
/-! DEFINITION. The lifecycle operations (43_lifecycle R220 to R227): INIT, START, STOP and the no-op hooks SLEEP and
WAKEUP. Each is one atomic transition (20_memory R66). -/

namespace Sys2Proof.Machine

/-- R220, R282: the registers INIT sets; CFG, FAULT and CTMO are not among them. -/
def State.initialised (s : State) : State :=
  { s with
    wr := 0, rd := 0, count := 0
    pclaim := false, cclaim := false, cwait := false
    slots := List.replicate s.params.n ⟨none, none⟩
    link := false
    lstate := .stopped }

/-- R221, R224: the cursors go to zero when the open parameter P_RESTART_FLUSH says so; the slots stay. -/
def State.restartFlush (s : State) : State :=
  if s.params.restartFlush = true then { s with wr := 0, rd := 0, count := 0 } else s

/-- R221, R259: the link is open; what a fresh link already held stands behind what was kept (log 10). -/
def State.linkUp (s : State) (fresh : List WireBytes) : State :=
  { s.restartFlush with
    link := true
    lstate := .ready
    env := { s.env with wireRx := s.env.wireRx ++ fresh } }.log (.fresh fresh)

/-- R222, R260: the link is closed. -/
def State.linkDown (s : State) : State := { s with link := false, lstate := .stopped }

/-- R221, from STOPPED: the checks, CFG, the question that passes it on, and its four answers. -/
def openLink (who : Agent) (cfg : CfgName) (s : State) : Result :=
  if lifecycleBusy s = true then raise who .concurrentLifecycle s
  else
    askOpen (fun answer s =>
      match answer with
      | .ok fresh => respond who .ok (s.linkUp fresh)
      | .openFailed => raise who .openFailure s
      | .resolveFailed => raise who .resolveFailure s
      | .bindFailed => raise who .bindFailure s) { s with cfg := some cfg }

/-- R222, from READY: the checks, the question and its two answers. -/
def closeLink (who : Agent) (s : State) : Result :=
  if lifecycleBusy s = true then raise who .concurrentLifecycle s
  else
    askClose who (fun answer s =>
      match answer with
      | .ok => respond who .ok s.linkDown
      | .failed => raise who .closeFailure s) s

/-- INIT (R220). -/
def execInit (s : State) : Result :=
  request .init (fun who s =>
    if s.lstate = .uninit then respond who .ok s.initialised else raise who .badLifecycle s) s

/-- START (R221): NotInitialized in UNINIT, nothing at all in READY. -/
def execStart (cfg : CfgName) (s : State) : Result :=
  request (.start cfg) (fun who =>
    needInit who fun s => if s.lstate = .ready then respond who .ok s else openLink who cfg s) s

/-- STOP (R222): NotInitialized in UNINIT, nothing at all in STOPPED. -/
def execStop (s : State) : Result :=
  request .stop (fun who =>
    needInit who fun s => if s.lstate = .stopped then respond who .ok s else closeLink who s) s

/-- SLEEP (R226): a no-op, legal in every state but HALTED. -/
def execSleep (s : State) : Result := request .sleep (fun who s => respond who .ok s) s

/-- WAKEUP (R227): a no-op, legal in every state but HALTED. -/
def execWakeup (s : State) : Result := request .wakeup (fun who s => respond who .ok s) s

end Sys2Proof.Machine
end

