-- ==== Sys2Proof/Machine/Dispatch.lean ====
section
/-! DEFINITION. The meaning of each operation of 30_encoding R100, one arm a constructor. -/

namespace Sys2Proof.Machine

def exec (i : Instr) (s : State) : Host.Outcome State Fault Refusal :=
  match i with
  -- 43_lifecycle
  | .init => Sys2Proof.Machine.execInit s
  | .start cfg => Sys2Proof.Machine.execStart cfg s
  | .stop => Sys2Proof.Machine.execStop s
  | .sleep => Sys2Proof.Machine.execSleep s
  | .wakeup => Sys2Proof.Machine.execWakeup s
  -- 40_codec
  | .encode f => Sys2Proof.Machine.execEncode f s
  | .decode w => Sys2Proof.Machine.execDecode w s
  -- 41_fifo
  | .claimEmpty => Sys2Proof.Machine.execClaimEmpty s
  | .slotWrite slot f => Sys2Proof.Machine.execSlotWrite slot f s
  | .publish slot size => Sys2Proof.Machine.execPublish slot size s
  | .claimFull timeout => Sys2Proof.Machine.execClaimFull timeout s
  | .slotRead slot => Sys2Proof.Machine.execSlotRead slot s
  | .release slot => Sys2Proof.Machine.execRelease slot s
  -- 42_datapath
  | .intake => Sys2Proof.Machine.execIntake s
  | .receive mbox => Sys2Proof.Machine.execReceive mbox s
  | .transmit mbox f => Sys2Proof.Machine.execTransmit mbox f s
  | .isRxNonempty mbox => Sys2Proof.Machine.execIsRxNonempty mbox s
  | .isTxReady mbox => Sys2Proof.Machine.execIsTxReady mbox s
  | .abort mbox => Sys2Proof.Machine.execAbort mbox s

end Sys2Proof.Machine
end

