-- ==== Sys2Proof/Machine/Turn.lean ====
section
/-! DEFINITION. What happens next (10_state R29, R47; 20_memory R70): the move the schedule names, or a free one; an
agent's turn (the next atomic steps of its operation in progress, or its next request); the application threads behind
port A (70 R287); the environment's moves
(60_exceptions R260, R269); and the placing of a request on a port. CANCF has no program counter and fetches nothing
(R29): "fetching" here is taking the next request of an agent's own list (log 6). -/

namespace Sys2Proof.Machine

/-- The next move: the first of the schedule, else a free one (log 5). -/
def nextMove (s : State) : Move × State :=
  let d := drawFrom s.schedule Config.freeMove s.draws
  (d.1, { s with schedule := d.2.1, draws := d.2.2 })

/-- The agent issues its next request, if it has one (R29): decoded and run, or an illegal code (R250). -/
def serveRequest (who : Agent) (s : State) : Result :=
  match (s.port who).pending with
  | [] => .next s
  | r :: rest =>
    let s' := s.setPort who { s.port who with pending := rest }
    match decode r with
    | .ok i => exec i s'
    | .error (.reservedOp op) => illegalRequest op s'

/-- An agent's turn: the operation in progress goes on (R67); a held consumer has no step (R158); else the agent issues
its next request. -/
def agentTurn (who : Agent) (steps : Nat) (s : State) : Result :=
  let s' := { s with turn := ⟨who, steps⟩ }
  if (s.port who).stage ≠ .idle then advance who (steps + 1) s'
  else if who = .c ∧ consumerHeld s = true then .next s'
  else serveRequest who s'

/-- R11, R287: the application thread that acts through port A changes. A TRANSMIT in progress there waits between two of
its steps, and the `k`-th waiting one comes to the port; where there is no such one the port is free for a request
(log 12). -/
def State.switchThread (s : State) (k : Nat) : State :=
  let waiting := if s.portA.stage = .idle then s.transmits else s.transmits ++ [s.portA.stage]
  { s with
    transmits := waiting.eraseIdx k
    portA := { s.portA with stage := waiting[k]?.getD .idle } }

/-- R269: the environment appends a frame, only while LINK = 1. -/
def injectFrame (w : WireBytes) (s : State) : Result :=
  if s.link = true then
    .next ({ s with env := { s.env with wireRx := s.env.wireRx ++ [w] } }.log (.injected w))
  else .next s

/-- R260: the environment drops the `k`-th frame waiting, only while LINK = 0. -/
def loseFrame (k : Nat) (s : State) : Result :=
  match s.env.wireRx[k]? with
  | some w =>
    if s.link = false then
      .next ({ s with env := { s.env with wireRx := s.env.wireRx.eraseIdx k } }.log (.lost w))
    else .next s
  | none => .next s

/-- One move. A move that is not enabled leaves the machine as it is (log 13). -/
def takeMove (m : Move) (s : State) : Result :=
  match m with
  | .agent who steps => agentTurn who steps s
  | .thread k => .next (s.switchThread k)
  | .inject w => injectFrame w s
  | .lose k => loseFrame k s
  | .complete => completeHeld s
  | .expire => expireHeld s

/-- The port a request is placed on: the first agent R100 lists for its operation; `A` for a reserved code, which is
illegal on any port (R250). -/
def placingPort (r : Request) : Agent :=
  match decode r with
  | .ok i => (issuers i).headD .a
  | .error _ => .a

/-- The steps the longest composite operation takes after its step 0: INTAKE's steps 1 to 6 (R190). -/
def longestOperation : Nat := 6

/-- `r` as the next request, and the turn its agent's, with steps enough to run it without another agent between: the
port is idle, and a consumer that is to issue a request is not held (log 6). -/
def placeRequest (r : Request) (s : State) : State :=
  let who := placingPort r
  let s' := s.setPort who { pending := r :: (s.port who).pending, stage := .idle }
  { s' with
    cwait := if who = .c then false else s'.cwait
    schedule := .agent who longestOperation :: s'.schedule }

end Sys2Proof.Machine
end

