-- ==== Sys2Proof/Machine/Step.lean ====
section
/-! DEFINITION. One step of the machine: one move (Machine/Turn.lean); and the placing of one word. -/

namespace Sys2Proof.Machine

/-- One step: the next move is taken. -/
def step (s : State) : Host.Outcome State Fault Refusal :=
  takeMove (nextMove s).1 (nextMove s).2

/-- `s` with the operation whose word is `w` (bits above `nbits` zero) as the request the very next step issues
(log 6). -/
def State.withFetchWord (s : State) (nbits w : Nat) : State :=
  placeRequest (requestOfWord (w % 2 ^ nbits)) s

end Sys2Proof.Machine
end

