-- ==== Sys2Proof/Safety.lean ====
section
/-! DEFINITION. What counts as a good state and a finished run: the invariants of 10_state R26, R27, R31, R33, R37, who
owns a claimed slot between two steps of a composite operation (20_memory R71, 42_datapath R191), the published frames
as a queue (R26, R74), and the end of a run (70 R297). -/

namespace Sys2Proof.Machine

/-- R6: `1 ≤ N ≤ 256`. -/
abbrev State.ParamsOk (s : State) : Prop := 1 ≤ s.params.n ∧ s.params.n ≤ 256

/-- R20: slot space has exactly the slots `0 .. N-1`. -/
abbrev State.SlotsOk (s : State) : Prop := Memory.wf s.params.n s.slots = true

/-- R22: a size register holds 1 to 13 or `none`. -/
abbrev State.SizesOk (s : State) : Prop :=
  s.slots.all (fun slot => match slot.size with | some z => sizeAccepted z | none => true) = true

/-- R26: the cursors of a ring that is set up. -/
abbrev State.CursorsOk (s : State) : Prop :=
  ringUsable s = true →
    s.wr < s.params.n ∧ s.rd < s.params.n ∧ s.count ≤ s.params.n ∧ s.wr = (s.rd + s.count) % s.params.n

/-- R28: a producer claim leaves room, a consumer claim has a full slot; R156: a held consumer's timeout is not the
immediate one. -/
abbrev State.ClaimsOk (s : State) : Prop :=
  ringUsable s = true →
    (s.pclaim = true → s.count < s.params.n) ∧ (s.cclaim = true → 1 ≤ s.count) ∧
      (s.cwait = true → s.ctmo ≠ immediateTimeout)

/-- R22: every published slot has a size. -/
abbrev State.PublishedOk (s : State) : Prop :=
  ringUsable s = true → ∀ k < s.count, s.sizeAt ((s.rd + k) % s.params.n) ≠ none

/-- R31: in STOPPED and READY, LINK = 1 exactly when LSTATE = READY. -/
abbrev State.LinkOk (s : State) : Prop := ringUsable s = true → (s.link = true ↔ s.lstate = .ready)

/-- R33, R240: FAULT is not 0 exactly in HALTED, and holds a code some rule raises. -/
abbrev State.FaultOk (s : State) : Prop :=
  (s.fault ≠ 0 ↔ s.lstate = .halted) ∧ (s.fault = 0 ∨ s.fault ∈ raisedCodes)

/-- The invariant of the machine: what holds at reset and what every step keeps. -/
abbrev State.Inv (s : State) : Prop :=
  s.ParamsOk ∧ s.SlotsOk ∧ s.SizesOk ∧ s.CursorsOk ∧ s.ClaimsOk ∧ s.PublishedOk ∧ s.LinkOk ∧ s.FaultOk

/-- R71, R191: the stages that belong on the producer's port. While an INTAKE stands between its claim and its publish, the
producer holds the claim on the slot it will name. -/
def producerStageOk (pclaim : Bool) (wr : Nat) : Stage → Bool
  | .idle => true
  | .intakePoll => true
  | .intakeRead => true
  | .intakeDecode _ => true
  | .intakeClaim _ => true
  | .intakeStore slot _ => pclaim && decide (slot.toNat = wr)
  | .intakeReport => true
  | .receiveClaim => false
  | .receiveRead _ => false
  | .receiveRelease _ _ => false
  | .receiveReply _ => false
  | .transmitEncode _ => false
  | .transmitWrite _ => false
  | .transmitReply => false

/-- R71: the stages that belong on the consumer's port. While a RECEIVE stands between its claim and its release, the
consumer holds the claim on the slot it will name. -/
def consumerStageOk (cclaim : Bool) (rd : Nat) : Stage → Bool
  | .idle => true
  | .intakePoll => false
  | .intakeRead => false
  | .intakeDecode _ => false
  | .intakeClaim _ => false
  | .intakeStore _ _ => false
  | .intakeReport => false
  | .receiveClaim => true
  | .receiveRead slot => cclaim && decide (slot.toNat = rd)
  | .receiveRelease slot _ => cclaim && decide (slot.toNat = rd)
  | .receiveReply _ => true
  | .transmitEncode _ => false
  | .transmitWrite _ => false
  | .transmitReply => false

/-- The stages that belong on the application's port and among the TRANSMITs that wait behind it. -/
def applicationStageOk : Stage → Bool
  | .idle => true
  | .intakePoll => false
  | .intakeRead => false
  | .intakeDecode _ => false
  | .intakeClaim _ => false
  | .intakeStore _ _ => false
  | .intakeReport => false
  | .receiveClaim => false
  | .receiveRead _ => false
  | .receiveRelease _ _ => false
  | .receiveReply _ => false
  | .transmitEncode _ => true
  | .transmitWrite _ => true
  | .transmitReply => true

/-- R199, R190: no composite operation is in progress before INIT. -/
abbrev State.UninitIdle (s : State) : Prop :=
  s.lstate = .uninit → s.portP.stage = .idle ∧ s.portC.stage = .idle ∧ s.portA.stage = .idle ∧ s.transmits = []

/-- R35, R249: where the ring is set up, a held consumer has no claim and no other operation in progress. -/
abbrev State.HeldOk (s : State) : Prop :=
  ringUsable s = true → s.cwait = true → s.cclaim = false ∧ s.portC.stage = .idle

/-- Who owns what between two steps of a composite operation. -/
abbrev State.Owned (s : State) : Prop :=
  producerStageOk s.pclaim s.wr s.portP.stage = true ∧ consumerStageOk s.cclaim s.rd s.portC.stage = true ∧
    applicationStageOk s.portA.stage = true ∧ (∀ st ∈ s.transmits, applicationStageOk st = true) ∧ s.UninitIdle ∧ s.HeldOk

/-- The published slots, oldest first (R26): the queue the consumer takes from. -/
def State.queue (s : State) : List (Option InternalFrame) :=
  (List.range s.count).map fun k => s.frameAt ((s.rd + k) % s.params.n)

/-- R228: the operations that fault with NotInitialized in UNINIT. -/
def needsInitialised : Instr → Bool
  | .start _ => true
  | .stop => true
  | .claimEmpty => true
  | .slotWrite _ _ => true
  | .publish _ _ => true
  | .claimFull _ => true
  | .slotRead _ => true
  | .release _ => true
  | .init => false
  | .sleep => false
  | .wakeup => false
  | .encode _ => false
  | .decode _ => false
  | .intake => false
  | .receive _ => false
  | .transmit _ _ => false
  | .isRxNonempty _ => false
  | .isTxReady _ => false
  | .abort _ => false

/-- R228: the operations that fault with NotReady in UNINIT and STOPPED. -/
def needsReady : Instr → Bool
  | .receive _ => true
  | .transmit _ _ => true
  | .isRxNonempty _ => true
  | .isTxReady _ => true
  | .init => false
  | .start _ => false
  | .stop => false
  | .sleep => false
  | .wakeup => false
  | .encode _ => false
  | .decode _ => false
  | .claimEmpty => false
  | .slotWrite _ _ => false
  | .publish _ _ => false
  | .claimFull _ => false
  | .slotRead _ => false
  | .release _ => false
  | .intake => false
  | .abort _ => false

/-- R105: the mailbox operand of an operation that has one. -/
def mailboxOf : Instr → Option Byte
  | .receive mbox => some mbox
  | .transmit mbox _ => some mbox
  | .isRxNonempty mbox => some mbox
  | .isTxReady mbox => some mbox
  | .abort mbox => some mbox
  | .init => none
  | .start _ => none
  | .stop => none
  | .sleep => none
  | .wakeup => none
  | .encode _ => none
  | .decode _ => none
  | .claimEmpty => none
  | .slotWrite _ _ => none
  | .publish _ _ => none
  | .claimFull _ => none
  | .slotRead _ => none
  | .release _ => none
  | .intake => none

/-- The ring's registers (R20 to R27, R35) as one value: what R201 says the transmit path neither reads nor writes. -/
structure RingRegisters where
  wr     : Nat
  rd     : Nat
  count  : Nat
  pclaim : Bool
  cclaim : Bool
  cwait  : Bool
  ctmo   : Word32
  slots  : Memory
  deriving DecidableEq, Repr

/-- `s` with the ring's registers replaced. -/
def State.withRing (s : State) (r : RingRegisters) : State :=
  { s with
    wr := r.wr, rd := r.rd, count := r.count, pclaim := r.pclaim, cclaim := r.cclaim
    cwait := r.cwait, ctmo := r.ctmo, slots := r.slots }

/-- The same change on the next state of an answer. -/
def mapNext (g : State → State) : Result → Result
  | .next s => .next (g s)
  | .fault f => .fault f
  | .refused x => .refused x

/-- The run so far met no fault and no refused request. -/
abbrev State.Clean (s : State) : Prop := s.fault = 0 ∧ s.refusedMet = false

/-- R297: a finished run. Every request has had its response: one without a response is a fault, a refusal or a
hold. -/
abbrev State.Finished (s : State) : Prop :=
  s.Clean ∧ s.cwait = false ∧ s.portP = Port.quiet ∧ s.portC = Port.quiet ∧ s.portA = Port.quiet ∧
    s.transmits = []

end Sys2Proof.Machine
end

