-- ==== Sys2Proof/Certificates/Slice0/Obligations.lean ====
section
/-! DEFINITION. The statements about the machine, in the order: encoding and codec, lifecycle, ring, datapath, the common
checks, steps and turns, and the rules of the whole machine. `s` is any state; a next state is written out field by
field over `s`, so an equation states the result and the frame at once. -/

open Sys2Proof Sys2Proof.Machine

/-! ## Encoding (30_encoding) and the codec (40_codec) -/

/-- R92, R95, R99, R100: decoding an encoded operation gives it back, for every operation and every operand value. -/
def Obligations.RequestsDecodeBack : Prop :=
  ∀ i : Instr, decode (encode i) = .ok i

/-- 95_test_vectors section 8 and log 7: so does decoding its word, which fits the operation's bits. -/
def Obligations.WordsDecodeBack : Prop :=
  ∀ i : Instr, wordOfRequest (encode i) < 2 ^ i.bits ∧
    decodeTableWord i.bits (wordOfRequest (encode i)) = some i

/-- R99: what decodes to `i` is `encode i` on the ports the format names; every other port is ignored. -/
def Obligations.DecodedRequestsEncodeBack : Prop :=
  ∀ (r : Request) (i : Instr), decode r = .ok i → encode i = readPorts r ∧ decode (readPorts r) = .ok i

/-- R100, R103: nineteen codes are assigned, the other 237 are reserved. -/
def Obligations.ReservedCodesRejected : Prop :=
  ∀ r : Request,
    (r.op.toNat ∈ [0x00, 0x01, 0x02, 0x03, 0x04, 0x10, 0x11, 0x20, 0x21, 0x22, 0x23, 0x24, 0x25, 0x30, 0x31, 0x32,
        0x33, 0x34, 0x35] → ∃ i : Instr, decode r = .ok i ∧ i.opcode = r.op) ∧
      (r.op.toNat ∉ [0x00, 0x01, 0x02, 0x03, 0x04, 0x10, 0x11, 0x20, 0x21, 0x22, 0x23, 0x24, 0x25, 0x30, 0x31, 0x32,
        0x33, 0x34, 0x35] → decode r = .error (.reservedOp r.op))

/-- R92, R95: where each field of an Internal Frame stands on a port and in a slot, that the 104 bits are those fields and
no more, and which bits of the wire port each serialised byte is. -/
def Obligations.PortPackings : Prop :=
  (∀ f : InternalFrame,
    (packFrame f).getLsbD 0 = f.err ∧ (packFrame f).getLsbD 1 = f.rtr ∧ (packFrame f).getLsbD 2 = f.ext ∧
      (packFrame f).extractLsb' 3 29 = f.id ∧ (packFrame f).extractLsb' 32 8 = f.len ∧
      ∀ k : Fin 8, (packFrame f).extractLsb' (40 + 8 * k.val) 8 = f.data[k]) ∧
    (∀ v : BitVec 104, packFrame (unpackFrame v) = v) ∧ slotBytes * 8 = 104 ∧
    (∀ (w : WireBytes) (k : Fin 16), (packWire w).extractLsb' (8 * k.val) 8 = w[k]) ∧
    ∀ v : BitVec 128, packWire (unpackWire v) = v

/-- Log 7: words of the four families in the linear form log 7 (DEDUCED) chooses; R99 itself has the ports in parallel. The
op codes are those of R100, the operand widths and values those of R101, the packing of a frame that of R92. -/
def Obligations.SampleWordsDecode : Prop :=
  decodeTableWord 8 0x00 = some .init ∧
    decodeTableWord 136 0x00000000000000747365742D6E61637601 =
      some (.start 0x00000000000000747365742D6E616376) ∧
    decodeTableWord 112 0x0000000000000000003FFA10 =
      some (.encode ⟨false, true, false, 0x7FF, 0, #v[0, 0, 0, 0, 0, 0, 0, 0]⟩) ∧
    decodeTableWord 24 0x0D0322 = some (.publish 3 13) ∧
    decodeTableWord 40 0xFFFFFFFF23 = some (.claimFull 0xFFFFFFFF) ∧
    decodeTableWord 120 0x000000000000BBAA0200D5E6F40032 =
      some (.transmit 0 ⟨false, false, true, 0x1ABCDE, 2, #v[0xAA, 0xBB, 0, 0, 0, 0, 0, 0]⟩) ∧
    decodeTableWord 8 0x05 = none

/-- R98, R110: the assembly of every field, both ways; the OR of ENCODE never merges bits, so the identifier is a
concatenation. -/
def Obligations.FieldsAssembledByTable : Prop :=
  ∀ (f : InternalFrame) (w : WireFrame),
    (encodeFrame f).wid =
        ((BitVec.ofBool f.ext).setWidth 32 <<< 31) ||| ((BitVec.ofBool f.rtr).setWidth 32 <<< 30) |||
          ((BitVec.ofBool f.err).setWidth 32 <<< 29) ||| f.id.setWidth 32 ∧
      (encodeFrame f).wid = BitVec.ofBool f.ext ++ BitVec.ofBool f.rtr ++ BitVec.ofBool f.err ++ f.id ∧
      (encodeFrame f).wlen = f.len ∧
      (∀ k : Fin 8, (encodeFrame f).wdata[k] = f.data[k]) ∧
      (decodeFrame w).ext = w.wid.getLsbD 31 ∧
      (decodeFrame w).rtr = w.wid.getLsbD 30 ∧
      (decodeFrame w).err = w.wid.getLsbD 29 ∧
      (decodeFrame w).id = w.wid.extractLsb' 0 29 ∧
      ((decodeFrame w).id.setWidth 32 : BitVec 32) = w.wid &&& 0x1FFFFFFF ∧
      (decodeFrame w).len = w.wlen ∧
      (∀ k : Fin 8, (decodeFrame w).data[k] = w.wdata[k])

/-- R60, R95, R96: the sixteen bytes of a Wire Frame in either byte order. -/
def Obligations.SerialisedLayout : Prop :=
  ∀ w : WireFrame,
    serialise .little w =
        #v[byteOf w.wid 0, byteOf w.wid 1, byteOf w.wid 2, byteOf w.wid 3, w.wlen, 0, 0, 0,
          w.wdata[0], w.wdata[1], w.wdata[2], w.wdata[3], w.wdata[4], w.wdata[5], w.wdata[6], w.wdata[7]] ∧
      serialise .big w =
        #v[byteOf w.wid 3, byteOf w.wid 2, byteOf w.wid 1, byteOf w.wid 0, w.wlen, 0, 0, 0,
          w.wdata[0], w.wdata[1], w.wdata[2], w.wdata[3], w.wdata[4], w.wdata[5], w.wdata[6], w.wdata[7]]

/-- R60, R97: which bytes are read, that the padding is not, and both round trips of the serialisation. -/
def Obligations.DeserialisedFields : Prop :=
  ∀ (o : ByteOrder) (w : WireFrame) (wb : WireBytes),
    (deserialise .little wb).wid = wb[3] ++ wb[2] ++ wb[1] ++ wb[0] ∧
      (deserialise .big wb).wid = wb[0] ++ wb[1] ++ wb[2] ++ wb[3] ∧
      (deserialise o wb).wlen = wb[4] ∧
      (∀ k : Fin 8, (deserialise o wb).wdata[k] = wb[8 + k.val]) ∧
      (∀ a b c : Byte, deserialise o (((wb.set 5 a).set 6 b).set 7 c) = deserialise o wb) ∧
      deserialise o (serialise o w) = w ∧
      (serialise o (deserialise o wb) = wb ↔ wb[5] = 0 ∧ wb[6] = 0 ∧ wb[7] = 0)

/-- R135: decoding an encoded frame gives it back, for all 2^104 frames, valid or malformed, in either byte order. -/
def Obligations.InternalRoundTrip : Prop :=
  ∀ (o : ByteOrder) (f : InternalFrame),
    decodeFrame (encodeFrame f) = f ∧ decodeBytes o (encodeBytes o f) = f

/-- R137: encoding a decoded frame gives back the Wire Frame, and the sixteen bytes exactly when the padding is zero. -/
def Obligations.WireRoundTrip : Prop :=
  ∀ (o : ByteOrder) (w : WireFrame) (wb : WireBytes),
    encodeFrame (decodeFrame w) = w ∧
      encodeBytes o (decodeBytes o wb) = ((wb.set 5 0).set 6 0).set 7 0 ∧
      (encodeBytes o (decodeBytes o wb) = wb ↔ wb[5] = 0 ∧ wb[6] = 0 ∧ wb[7] = 0)

/-- R136: each flag has a bit of the identifier to itself, so changing one field changes no other field's bits. -/
def Obligations.FlagsIndependent : Prop :=
  ∀ (f : InternalFrame) (b : Bool) (x : Ident) (k : Nat), k < 32 →
    (k ≠ 29 → (encodeFrame { f with err := b }).wid.getLsbD k = (encodeFrame f).wid.getLsbD k) ∧
      (k ≠ 30 → (encodeFrame { f with rtr := b }).wid.getLsbD k = (encodeFrame f).wid.getLsbD k) ∧
      (k ≠ 31 → (encodeFrame { f with ext := b }).wid.getLsbD k = (encodeFrame f).wid.getLsbD k) ∧
      (29 ≤ k → (encodeFrame { f with id := x }).wid.getLsbD k = (encodeFrame f).wid.getLsbD k) ∧
      decodeFrame (encodeFrame { f with err := b }) = { decodeFrame (encodeFrame f) with err := b } ∧
      decodeFrame (encodeFrame { f with rtr := b }) = { decodeFrame (encodeFrame f) with rtr := b } ∧
      decodeFrame (encodeFrame { f with ext := b }) = { decodeFrame (encodeFrame f) with ext := b } ∧
      decodeFrame (encodeFrame { f with id := x }) = { decodeFrame (encodeFrame f) with id := x }

/-- R62: the word views are little-endian over the byte array. -/
def Obligations.PayloadWordViews : Prop :=
  ∀ d : Payload,
    (∀ j : Fin 4, data16 d j = d[2 * j.val].setWidth 16 ||| (d[2 * j.val + 1].setWidth 16 <<< 8)) ∧
      (∀ j : Fin 2, data32 d j =
        d[4 * j.val].setWidth 32 ||| (d[4 * j.val + 1].setWidth 32 <<< 8) |||
          (d[4 * j.val + 2].setWidth 32 <<< 16) ||| (d[4 * j.val + 3].setWidth 32 <<< 24))

/-- R130, R131, R133, R134: ENCODE and DECODE answer in every state but HALTED and write nothing but the response. -/
def Obligations.CodecAnswers : Prop :=
  ∀ (s : State) (f : InternalFrame) (w : WireBytes), s.lstate ≠ .halted →
    (s.turn.agent = .a →
      exec (.encode f) s = .next { s with
        portA := { s.portA with stage := .idle }
        history := .response .a (.wire (serialise s.params.wireByteOrder (encodeFrame f))) ::
          .request .a (.encode f) :: s.history }) ∧
      (s.turn.agent = .a →
        exec (.decode w) s = .next { s with
          portA := { s.portA with stage := .idle }
          history := .response .a (.frame (decodeFrame (deserialise s.params.wireByteOrder w))) ::
            .request .a (.decode w) :: s.history }) ∧
      (s.turn.agent = .p →
        exec (.decode w) s = .next { s with
          portP := { s.portP with stage := .idle }
          history := .response .p (.frame (decodeFrame (deserialise s.params.wireByteOrder w))) ::
            .request .p (.decode w) :: s.history })

/-! ## Lifecycle (43_lifecycle) -/

/-- R220, R282: INIT from UNINIT sets every register but CFG, FAULT and CTMO; from STOPPED or READY it faults; in HALTED
it is refused. -/
def Obligations.InitSetsUp : Prop :=
  ∀ s : State, s.turn.agent = .a →
    (s.lstate = .uninit →
      exec .init s = .next { s with
        wr := 0, rd := 0, count := 0, pclaim := false, cclaim := false, cwait := false
        slots := List.replicate s.params.n ⟨none, none⟩
        link := false
        lstate := .stopped
        portA := { s.portA with stage := .idle }
        history := .response .a .ok :: .request .a .init :: s.history }) ∧
      (s.lstate = .stopped ∨ s.lstate = .ready →
        exec .init s = .next ((s.log (.request .a .init)).takeFault .a .badLifecycle)) ∧
      (s.lstate = .halted → exec .init s = .next ((s.log (.request .a .init)).markRefused .a))

/-- R32, R221, R224, R225, R241, and log 10 for the frames a fresh link holds: every outcome of START outside HALTED. The environment
is handed the name START has written to CFG. -/
def Obligations.StartOpensLink : Prop :=
  ∀ (s : State) (cfg : CfgName) (x : OpenAnswer) (opens : List OpenAnswer) (draws : Nat), s.turn.agent = .a →
    drawFrom s.env.opens (Config.freeOpen (some cfg)) s.draws = (x, opens, draws) →
    (s.lstate = .uninit →
      exec (.start cfg) s = .next ((s.log (.request .a (.start cfg))).takeFault .a .notInitialized)) ∧
      (s.lstate = .ready →
        exec (.start cfg) s = .next { s with
          portA := { s.portA with stage := .idle }
          history := .response .a .ok :: .request .a (.start cfg) :: s.history }) ∧
      (s.lstate = .stopped → (s.pclaim = true ∨ s.cclaim = true ∨ s.cwait = true) →
        exec (.start cfg) s = .next ((s.log (.request .a (.start cfg))).takeFault .a .concurrentLifecycle)) ∧
      (s.lstate = .stopped → s.pclaim = false → s.cclaim = false → s.cwait = false →
        (∀ fresh, x = .ok fresh →
          exec (.start cfg) s = .next { s with
            cfg := some cfg
            link := true
            lstate := .ready
            wr := if s.params.restartFlush = true then 0 else s.wr
            rd := if s.params.restartFlush = true then 0 else s.rd
            count := if s.params.restartFlush = true then 0 else s.count
            env := { s.env with opens := opens, wireRx := s.env.wireRx ++ fresh }
            draws := draws
            portA := { s.portA with stage := .idle }
            history := .response .a .ok :: .fresh fresh :: .opening (some cfg) ::
              .request .a (.start cfg) :: s.history }) ∧
          (∀ c, (x = .openFailed ∧ c = .openFailure) ∨ (x = .resolveFailed ∧ c = .resolveFailure) ∨
              (x = .bindFailed ∧ c = .bindFailure) →
            exec (.start cfg) s = .next
              ((({ s with cfg := some cfg, env := { s.env with opens := opens }, draws := draws }.log
                (.request .a (.start cfg))).log (.opening (some cfg))).takeFault .a c)))

/-- R222, R225, R242, R287: every outcome of STOP outside HALTED. -/
def Obligations.StopClosesLink : Prop :=
  ∀ (s : State) (x : Ack) (closes : List Ack) (draws : Nat), s.turn.agent = .a →
    drawFrom s.env.closes Config.freeClose s.draws = (x, closes, draws) →
    (s.lstate = .uninit →
      exec .stop s = .next ((s.log (.request .a .stop)).takeFault .a .notInitialized)) ∧
      (s.lstate = .stopped →
        exec .stop s = .next { s with
          portA := { s.portA with stage := .idle }
          history := .response .a .ok :: .request .a .stop :: s.history }) ∧
      (s.lstate = .ready → (s.pclaim = true ∨ s.cclaim = true ∨ s.cwait = true) →
        exec .stop s = .next ((s.log (.request .a .stop)).takeFault .a .concurrentLifecycle)) ∧
      (s.lstate = .ready → s.pclaim = false → s.cclaim = false → s.cwait = false →
        (s.link = true → x = .ok →
          exec .stop s = .next { s with
            link := false
            lstate := .stopped
            env := { s.env with closes := closes }
            draws := draws
            portA := { s.portA with stage := .idle }
            history := .response .a .ok :: .request .a .stop :: s.history }) ∧
          (s.link = true → x = .failed →
            exec .stop s = .next
              (({ s with env := { s.env with closes := closes }, draws := draws }.log
                (.request .a .stop)).takeFault .a .closeFailure)) ∧
          (s.link = false → exec .stop s = .next ((s.log (.request .a .stop)).markRefused .a)))

/-- R226, R227, R198, R266: SLEEP, WAKEUP and ABORT of mailbox 0 answer OK in every state but HALTED and change no
register. -/
def Obligations.NoOpHooksAnswerOk : Prop :=
  ∀ s : State, s.turn.agent = .a → s.lstate ≠ .halted →
    exec .sleep s = .next { s with
      portA := { s.portA with stage := .idle }
      history := .response .a .ok :: .request .a .sleep :: s.history } ∧
      exec .wakeup s = .next { s with
        portA := { s.portA with stage := .idle }
        history := .response .a .ok :: .request .a .wakeup :: s.history } ∧
      exec (.abort 0) s = .next { s with
        portA := { s.portA with stage := .idle }
        history := .response .a .ok :: .request .a (.abort 0) :: s.history }

/-- R228: the outcome of the lifecycle check of every operation, where it is not "runs". -/
def Obligations.LifecycleCheckTable : Prop :=
  ∀ (i : Instr) (s : State), mayIssue s.turn.agent i = true →
    (s.lstate = .halted →
      exec i s = .next ((s.log (.request s.turn.agent i)).markRefused s.turn.agent)) ∧
      (s.lstate = .uninit → needsInitialised i = true →
        exec i s = .next ((s.log (.request s.turn.agent i)).takeFault s.turn.agent .notInitialized)) ∧
      (s.lstate = .uninit ∨ s.lstate = .stopped → needsReady i = true →
        exec i s = .next ((s.log (.request s.turn.agent i)).takeFault s.turn.agent .notReady)) ∧
      (s.lstate = .uninit ∨ s.lstate = .stopped → i = .intake →
        exec i s = .next ((s.log (.request s.turn.agent i)).respond s.turn.agent (.bool false))) ∧
      (s.lstate = .stopped → i = .stop →
        exec i s = .next ((s.log (.request s.turn.agent i)).respond s.turn.agent .ok)) ∧
      (s.lstate = .ready → (∃ cfg, i = .start cfg) →
        exec i s = .next ((s.log (.request s.turn.agent i)).respond s.turn.agent .ok)) ∧
      (s.lstate = .stopped ∨ s.lstate = .ready → i = .init →
        exec i s = .next ((s.log (.request s.turn.agent i)).takeFault s.turn.agent .badLifecycle))

/-! ## The ring (41_fifo) -/

/-- R151: CLAIM_EMPTY where the ring is set up. -/
def Obligations.ClaimEmptyGivesWriteSlot : Prop :=
  ∀ s : State, s.turn.agent = .p → ringUsable s = true →
    (s.pclaim = true →
      exec .claimEmpty s = .next ((s.log (.request .p .claimEmpty)).takeFault .p .doubleClaimEmpty)) ∧
      (s.pclaim = false → s.count = s.params.n →
        exec .claimEmpty s = .next { s with
          portP := { s.portP with stage := .idle }
          history := .response .p .full :: .request .p .claimEmpty :: s.history }) ∧
      (s.pclaim = false → s.count ≠ s.params.n →
        exec .claimEmpty s = .next { s with
          pclaim := true
          portP := { s.portP with stage := .idle }
          history := .response .p (.slot (BitVec.ofNat 8 s.wr)) :: .request .p .claimEmpty :: s.history })

/-- R152: SLOT_WRITE where the ring is set up; the whole frame is stored in the claimed slot and nowhere else. -/
def Obligations.SlotWriteStoresFrame : Prop :=
  ∀ (s : State) (slot : Byte) (f : InternalFrame), s.turn.agent = .p → ringUsable s = true →
    (s.pclaim = false ∨ slot.toNat ≠ s.wr →
      exec (.slotWrite slot f) s =
        .next ((s.log (.request .p (.slotWrite slot f))).takeFault .p .slotWriteNotOwned)) ∧
      (∀ cell, s.pclaim = true → slot.toNat = s.wr → s.slots[s.wr]? = some cell →
        exec (.slotWrite slot f) s = .next { s with
          slots := s.slots.set s.wr { cell with frame := some f }
          portP := { s.portP with stage := .idle }
          history := .response .p .ok :: .request .p (.slotWrite slot f) :: s.history })

/-- R153: PUBLISH where the ring is set up, its checks in the order of its pseudocode. -/
def Obligations.PublishHandsOver : Prop :=
  ∀ (s : State) (slot size : Byte), s.turn.agent = .p → ringUsable s = true →
    (s.pclaim = false →
      exec (.publish slot size) s =
        .next ((s.log (.request .p (.publish slot size))).takeFault .p .publishNotClaimed)) ∧
      (s.pclaim = true → slot.toNat ≠ s.wr →
        exec (.publish slot size) s =
          .next ((s.log (.request .p (.publish slot size))).takeFault .p .publishWrongSlot)) ∧
      (s.pclaim = true → slot.toNat = s.wr → (size.toNat = 0 ∨ 13 < size.toNat) →
        exec (.publish slot size) s =
          .next ((s.log (.request .p (.publish slot size))).takeFault .p .publishBadSize)) ∧
      (∀ cell, s.pclaim = true → slot.toNat = s.wr → 1 ≤ size.toNat → size.toNat ≤ 13 →
          s.slots[s.wr]? = some cell →
        exec (.publish slot size) s = .next { s with
          slots := s.slots.set s.wr { cell with size := some size }
          count := s.count + 1
          wr := (s.wr + 1) % s.params.n
          pclaim := false
          portP := { s.portP with stage := .idle }
          history := .response .p .ok :: .wake :: .request .p (.publish slot size) :: s.history })

/-- R156: CLAIM_FULL where the ring is set up: the oldest full slot, or EMPTY for the immediate timeout, or a hold. -/
def Obligations.ClaimFullGivesReadSlot : Prop :=
  ∀ (s : State) (timeout : Word32), s.turn.agent = .c → ringUsable s = true →
    (s.cclaim = true →
      exec (.claimFull timeout) s =
        .next ((s.log (.request .c (.claimFull timeout))).takeFault .c .doubleClaimFull)) ∧
      (∀ cell, s.cclaim = false → 0 < s.count → s.slots[s.rd]? = some cell →
        exec (.claimFull timeout) s = .next { s with
          cclaim := true
          portC := { s.portC with stage := .idle }
          history := .response .c (.slotSize (BitVec.ofNat 8 s.rd) cell.size) ::
            .request .c (.claimFull timeout) :: s.history }) ∧
      (s.cclaim = false → s.count = 0 → timeout = 0 →
        exec (.claimFull timeout) s = .next { s with
          portC := { s.portC with stage := .idle }
          history := .response .c .empty :: .request .c (.claimFull timeout) :: s.history }) ∧
      (s.cclaim = false → s.count = 0 → timeout ≠ 0 →
        exec (.claimFull timeout) s = .next { s with
          cwait := true
          ctmo := timeout
          history := .hold :: .request .c (.claimFull timeout) :: s.history })

/-- R159: SLOT_READ where the ring is set up; nothing is written. -/
def Obligations.SlotReadReturnsFrame : Prop :=
  ∀ (s : State) (slot : Byte), s.turn.agent = .c → ringUsable s = true →
    (s.cclaim = false ∨ slot.toNat ≠ s.rd →
      exec (.slotRead slot) s =
        .next ((s.log (.request .c (.slotRead slot))).takeFault .c .slotReadNotOwned)) ∧
      (∀ cell, s.cclaim = true → slot.toNat = s.rd → s.slots[s.rd]? = some cell → cell.frame = none →
        exec (.slotRead slot) s =
          .next ((s.log (.request .c (.slotRead slot))).takeFault .c .unwrittenSlot)) ∧
      (∀ cell f, s.cclaim = true → slot.toNat = s.rd → s.slots[s.rd]? = some cell → cell.frame = some f →
        exec (.slotRead slot) s = .next { s with
          portC := { s.portC with stage := .idle }
          history := .response .c (.frame f) :: .request .c (.slotRead slot) :: s.history })

/-- R157: RELEASE where the ring is set up; the slot keeps its frame and its size. -/
def Obligations.ReleaseFreesSlot : Prop :=
  ∀ (s : State) (slot : Byte), s.turn.agent = .c → ringUsable s = true →
    (s.cclaim = false →
      exec (.release slot) s =
        .next ((s.log (.request .c (.release slot))).takeFault .c .releaseNotClaimed)) ∧
      (s.cclaim = true → slot.toNat ≠ s.rd →
        exec (.release slot) s =
          .next ((s.log (.request .c (.release slot))).takeFault .c .releaseWrongSlot)) ∧
      (s.cclaim = true → slot.toNat = s.rd →
        exec (.release slot) s = .next { s with
          count := s.count - 1
          rd := (s.rd + 1) % s.params.n
          cclaim := false
          portC := { s.portC with stage := .idle }
          history := .response .c .ok :: .request .c (.release slot) :: s.history })

/-- R158: the completion and the expiry of a held CLAIM_FULL as steps, and that neither does anything where it is not
enabled (log 13). -/
def Obligations.HeldClaimEnds : Prop :=
  ∀ (s : State) (rest : List Move),
    (s.schedule = .complete :: rest →
      (∀ cell, ringUsable s = true → s.cwait = true → 0 < s.count → s.cclaim = false → s.slots[s.rd]? = some cell →
        step s = .next { s with
          schedule := rest
          cwait := false
          cclaim := true
          portC := { s.portC with stage := .idle }
          history := .response .c (.slotSize (BitVec.ofNat 8 s.rd) cell.size) :: s.history }) ∧
        (ringUsable s = false ∨ s.cwait = false ∨ s.count = 0 ∨ s.cclaim = true →
          step s = .next { s with schedule := rest })) ∧
      (s.schedule = .expire :: rest →
        (ringUsable s = true → s.cwait = true → s.ctmo ≠ 0xFFFFFFFF →
          step s = .next { s with
            schedule := rest
            cwait := false
            portC := { s.portC with stage := .idle }
            history := .response .c .empty :: s.history }) ∧
          (ringUsable s = false ∨ s.cwait = false ∨ s.ctmo = 0xFFFFFFFF →
            step s = .next { s with schedule := rest }))

/-! ## The datapath (42_datapath) -/

/-- R190, R191, R262: an INTAKE with a frame waiting and room in the ring, in a turn long enough, moves one frame from
WIRE_RX into the ring, wakes, signals and reports activity; and its step 5 is one atomic step, which stores, publishes,
wakes and signals at once. -/
def Obligations.IntakeMovesOneFrame : Prop :=
  (∀ (s : State) (w : WireBytes) (rx : List WireBytes) (cell : Slot) (pollReads : List Ack) (reads : List ReadAnswer)
    (d₁ d₂ : Nat), s.turn.agent = .p → 6 ≤ s.turn.steps → s.lstate = .ready → s.link = true →
    s.env.wireRx = w :: rx →
    drawFrom s.env.pollReads Config.freePollReadable s.draws = (.ok, pollReads, d₁) →
    drawFrom s.env.reads Config.freeRead d₁ = (.ok, reads, d₂) →
    s.pclaim = false → s.count ≠ s.params.n → s.wr < 256 → s.slots[s.wr]? = some cell →
    exec .intake s = .next { s with
      slots := s.slots.set s.wr
        ⟨some (decodeFrame (deserialise s.params.wireByteOrder w)), some 13⟩
      count := s.count + 1
      wr := (s.wr + 1) % s.params.n
      env := { s.env with wireRx := rx, pollReads := pollReads, reads := reads }
      draws := d₂
      portP := { s.portP with stage := .idle }
      history := .response .p (.bool true) :: .rxEvent :: .wake :: .taken w :: .request .p .intake :: s.history }) ∧
    ∀ (s : State) (slot : Byte) (f : InternalFrame) (cell : Slot) (rest : List Move),
      s.schedule = .agent .p 0 :: rest → s.portP.stage = .intakeStore slot f → s.lstate ≠ .halted →
      s.pclaim = true → slot.toNat = s.wr → s.slots[s.wr]? = some cell →
      step s = .next { s with
        slots := s.slots.set s.wr ⟨some f, some 13⟩
        count := s.count + 1
        wr := (s.wr + 1) % s.params.n
        pclaim := false
        portP := { s.portP with stage := .intakeReport }
        turn := ⟨.p, 0⟩
        schedule := rest
        history := .rxEvent :: .wake :: s.history }

/-- R154, R190 corner case b: with the ring full the frame read is gone and stored nowhere; the report is the open
parameter's. -/
def Obligations.IntakeDropsWhenFull : Prop :=
  ∀ (s : State) (w : WireBytes) (rx : List WireBytes) (pollReads : List Ack) (reads : List ReadAnswer) (d₁ d₂ : Nat),
    s.turn.agent = .p → 6 ≤ s.turn.steps → s.lstate = .ready → s.link = true → s.env.wireRx = w :: rx →
    drawFrom s.env.pollReads Config.freePollReadable s.draws = (.ok, pollReads, d₁) →
    drawFrom s.env.reads Config.freeRead d₁ = (.ok, reads, d₂) →
    s.pclaim = false → s.count = s.params.n →
    exec .intake s = .next { s with
      env := { s.env with wireRx := rx, pollReads := pollReads, reads := reads }
      draws := d₂
      portP := { s.portP with stage := .idle }
      history := .response .p (.bool s.params.dropReportsActivity) :: .taken w :: .request .p .intake :: s.history }

/-- R190, R243, R244: the other ends of an INTAKE: nothing waiting, a failed poll, a failed read (which may have lost the
head of WIRE_RX, log 9), a producer claim left open. -/
def Obligations.IntakeOtherEnds : Prop :=
  ∀ (s : State) (pollReads : List Ack) (reads : List ReadAnswer) (x : ReadAnswer) (w : WireBytes)
    (rx : List WireBytes) (d₁ d₂ : Nat), s.turn.agent = .p → 6 ≤ s.turn.steps → s.lstate = .ready → s.link = true →
    (drawFrom s.env.pollReads Config.freePollReadable s.draws = (.ok, pollReads, d₁) → s.env.wireRx = [] →
      exec .intake s = .next { s with
        env := { s.env with pollReads := pollReads }
        draws := d₁
        portP := { s.portP with stage := .idle }
        history := .response .p (.bool false) :: .request .p .intake :: s.history }) ∧
      (drawFrom s.env.pollReads Config.freePollReadable s.draws = (.failed, pollReads, d₁) →
        exec .intake s = .next
          (({ s with env := { s.env with pollReads := pollReads }, draws := d₁ }.log
            (.request .p .intake)).takeFault .p .pollFailure)) ∧
      (drawFrom s.env.pollReads Config.freePollReadable s.draws = (.ok, pollReads, d₁) → s.env.wireRx = w :: rx →
        drawFrom s.env.reads Config.freeRead d₁ = (x, reads, d₂) →
        (x = .failed false →
          exec .intake s = .next
            (({ s with env := { s.env with pollReads := pollReads, reads := reads }, draws := d₂ }.log
              (.request .p .intake)).takeFault .p .receiveFailure)) ∧
          (x = .failed true →
            exec .intake s = .next
              ((({ s with env := { s.env with pollReads := pollReads, reads := reads, wireRx := rx }, draws := d₂ }.log
                (.request .p .intake)).log (.lost w)).takeFault .p .receiveFailure)) ∧
          (x = .ok → s.pclaim = true →
            exec .intake s = .next
              ((({ s with env := { s.env with pollReads := pollReads, reads := reads, wireRx := rx }, draws := d₂ }.log
                (.request .p .intake)).log (.taken w)).takeFault .p .doubleClaimEmpty)))

/-- R192: RECEIVE in READY, in a turn long enough: the oldest frame, or NONE, or the faults of its steps. -/
def Obligations.ReceiveTakesOldestFrame : Prop :=
  ∀ s : State, s.turn.agent = .c → 4 ≤ s.turn.steps → s.lstate = .ready →
    (s.cclaim = true →
      exec (.receive 0) s = .next ((s.log (.request .c (.receive 0))).takeFault .c .doubleClaimFull)) ∧
      (s.cclaim = false → s.count = 0 →
        exec (.receive 0) s = .next { s with
          portC := { s.portC with stage := .idle }
          history := .response .c .none :: .request .c (.receive 0) :: s.history }) ∧
      (∀ cell, s.cclaim = false → 0 < s.count → s.rd < 256 → s.slots[s.rd]? = some cell →
        (cell.frame = none →
          exec (.receive 0) s = .next
            (({ s with cclaim := true }.log (.request .c (.receive 0))).takeFault .c .unwrittenSlot)) ∧
          (∀ f, cell.frame = some f →
            exec (.receive 0) s = .next { s with
              count := s.count - 1
              rd := (s.rd + 1) % s.params.n
              cclaim := false
              portC := { s.portC with stage := .idle }
              history := .response .c (.frame f) :: .request .c (.receive 0) :: s.history }))

/-- R194, R195, R262: TRANSMIT in READY, in a turn long enough: the serialised frame is the newest of WIRE_TX, or the
instance halts; no readiness is asked and no register changes. -/
def Obligations.TransmitHandsToWire : Prop :=
  ∀ (s : State) (f : InternalFrame) (x : Ack) (writes : List Ack) (draws : Nat), s.turn.agent = .a →
    3 ≤ s.turn.steps → s.lstate = .ready → s.link = true →
    drawFrom s.env.writes
      (Config.freeWrite (serialise s.params.wireByteOrder (encodeFrame f))) s.draws = (x, writes, draws) →
    (x = .ok →
      exec (.transmit 0 f) s = .next { s with
        env := { s.env with
          writes := writes
          wireTx := s.env.wireTx ++ [serialise s.params.wireByteOrder (encodeFrame f)] }
        draws := draws
        portA := { s.portA with stage := .idle }
        history := .response .a .ok :: .sent (serialise s.params.wireByteOrder (encodeFrame f)) ::
          .request .a (.transmit 0 f) :: s.history }) ∧
      (x = .failed →
        exec (.transmit 0 f) s = .next
          (({ s with env := { s.env with writes := writes }, draws := draws }.log
            (.request .a (.transmit 0 f))).takeFault .a .transmitFailure))

/-- R196, R34: IS_RX_NONEMPTY in READY answers whether COUNT is above 0 and writes nothing. -/
def Obligations.RxNonemptyReportsCount : Prop :=
  ∀ s : State, s.turn.agent = .c → s.lstate = .ready →
    exec (.isRxNonempty 0) s = .next { s with
      portC := { s.portC with stage := .idle }
      history := .response .c (.bool (decide (0 < s.count))) :: .request .c (.isRxNonempty 0) :: s.history }

/-- R197, R261: IS_TX_READY in READY answers what the poll answers, or faults with PollFailure. -/
def Obligations.TxReadyReportsPoll : Prop :=
  ∀ (s : State) (x : PollAnswer) (pollWrites : List PollAnswer) (draws : Nat), s.turn.agent = .a →
    s.lstate = .ready → s.link = true →
    drawFrom s.env.pollWrites Config.freePollWritable s.draws = (x, pollWrites, draws) →
    (x ≠ .failed →
      exec (.isTxReady 0) s = .next { s with
        env := { s.env with pollWrites := pollWrites }
        draws := draws
        portA := { s.portA with stage := .idle }
        history := .response .a (.bool (decide (x = .yes))) :: .request .a (.isTxReady 0) :: s.history }) ∧
      (x = .failed →
        exec (.isTxReady 0) s = .next
          (({ s with env := { s.env with pollWrites := pollWrites }, draws := draws }.log
            (.request .a (.isTxReady 0))).takeFault .a .pollFailure))

/-! ## The common checks (60_exceptions) -/

/-- R105, R199, R245, R251: where the lifecycle check passes, mailbox 1 is refused and 2 to 255 fault. -/
def Obligations.MailboxChecked : Prop :=
  ∀ (i : Instr) (s : State) (mbox : Byte), mayIssue s.turn.agent i = true → mailboxOf i = some mbox →
    (s.lstate = .ready ∨ (i = .abort mbox ∧ s.lstate ≠ .halted)) →
    (mbox = 1 → exec i s = .next ((s.log (.request s.turn.agent i)).markRefused s.turn.agent)) ∧
      (2 ≤ mbox.toNat →
        exec i s = .next ((s.log (.request s.turn.agent i)).takeFault s.turn.agent .invalidMailbox))

/-- R257, R255: an assigned operation on the wrong port is refused: nothing but the mark, the history and the end of the
request. -/
def Obligations.WrongPortRefused : Prop :=
  ∀ (i : Instr) (s : State), mayIssue s.turn.agent i = false →
    exec i s = .next ({ s with
      refusedMet := true
      history := .refused s.turn.agent :: .request s.turn.agent i :: s.history }.setStage s.turn.agent .idle)

/-- R250, R251 items 1 and 2: a reserved code faults with IllegalOp on any port, and in HALTED is refused. -/
def Obligations.ReservedCodeFaults : Prop :=
  ∀ (s : State) (who : Agent) (steps : Nat) (r : Request) (more : List Request) (rest : List Move) (op : Byte),
    s.schedule = .agent who steps :: rest → s.port who = ⟨r :: more, .idle⟩ →
    ¬ (who = .c ∧ consumerHeld s = true) → decode r = .error (.reservedOp op) →
    (s.lstate ≠ .halted →
      step s = .next ((({ s with schedule := rest, turn := ⟨who, steps⟩ }.setPort who ⟨more, .idle⟩).log
        (.illegal who op)).takeFault who .illegalOp)) ∧
      (s.lstate = .halted →
        step s = .next ((({ s with schedule := rest, turn := ⟨who, steps⟩ }.setPort who ⟨more, .idle⟩).log
          (.illegal who op)).markRefused who))

/-- R252: faults are precise. A primitive operation that faults has written FAULT and LSTATE and no other register, but
for START, which R221 lets write CFG first. -/
def Obligations.FaultsArePrecise : Prop :=
  ∀ (i : Instr) (s t : State), exec i s = .next t → s.lstate ≠ .halted → t.lstate = .halted →
    i ≠ .intake → (∀ m, i ≠ .receive m) → (∀ m f, i ≠ .transmit m f) →
    t.link = s.link ∧ t.wr = s.wr ∧ t.rd = s.rd ∧ t.count = s.count ∧ t.pclaim = s.pclaim ∧ t.cclaim = s.cclaim ∧
      t.cwait = s.cwait ∧ t.ctmo = s.ctmo ∧ t.slots = s.slots ∧ t.refusedMet = s.refusedMet ∧
      t.env.wireRx = s.env.wireRx ∧ t.env.wireTx = s.env.wireTx ∧
      ((∀ cfg, i ≠ .start cfg) → t.cfg = s.cfg) ∧
      (∃ c, (t.history = .fault s.turn.agent c :: .request s.turn.agent i :: s.history ∨
          ∃ cfg, i = .start cfg ∧
            t.history = .fault s.turn.agent c :: .opening (some cfg) :: .request s.turn.agent i :: s.history) ∧
        (s.fault = 0 → t.fault = faultCode c))

/-- R287, R255: an environment question asked while LINK = 0 is refused and the step that asks it does not happen. So ends
a run of four steps in which a STOP of one application thread falls inside a TRANSMIT of another (log 12). -/
def Obligations.UnlinkedQuestionsRefused : Prop :=
  (∀ (s : State) (who : Agent) (w : WireBytes), s.link = false →
    stageStep who .intakePoll s = .next (s.markRefused who) ∧
      stageStep who .intakeRead s = .next (s.markRefused who) ∧
      stageStep who (.transmitWrite w) s = .next (s.markRefused who) ∧
      (s.lstate = .ready → s.turn.agent = .a →
        exec (.isTxReady 0) s = .next ((s.log (.request .a (.isTxReady 0))).markRefused .a))) ∧
    ∀ (s : State) (st : Stage) (f : InternalFrame) (w : WireBytes) (r : Request) (more : List Request)
      (closes : List Ack) (draws n : Nat) (rest : List Move),
      s.lstate = .ready → s.link = true → s.pclaim = false → s.cclaim = false → s.cwait = false →
      (st = .transmitWrite w ∨ (st = .transmitEncode f ∧ 1 ≤ n)) → s.portA = ⟨r :: more, st⟩ →
      decode r = .ok .stop → drawFrom s.env.closes Config.freeClose s.draws = (.ok, closes, draws) →
      s.schedule = .thread (s.transmits.length + 1) :: .agent .a 0 :: .thread s.transmits.length ::
        .agent .a n :: rest →
      andThen (andThen (andThen (step s) step) step) step = .next { s with
        lstate := .stopped
        link := false
        refusedMet := true
        env := { s.env with closes := closes }
        draws := draws
        portA := ⟨more, .idle⟩
        turn := ⟨.a, n⟩
        schedule := rest
        history := .refused .a :: .response .a .ok :: .request .a .stop :: s.history }

/-! ## Steps and turns -/

/-- A step runs the decoded request. When the schedule gives a turn to an idle agent whose next request decodes to `i`, and
the agent is no held consumer, the step is `exec i` with the request taken off the port and the turn recorded. -/
def Obligations.StepRunsDecodedRequest : Prop :=
  ∀ (s : State) (who : Agent) (steps : Nat) (r : Request) (more : List Request) (rest : List Move) (i : Instr),
    s.schedule = .agent who steps :: rest → s.port who = ⟨r :: more, .idle⟩ →
    ¬ (who = .c ∧ consumerHeld s = true) → decode r = .ok i →
    step s = exec i ({ s with schedule := rest, turn := ⟨who, steps⟩ }.setPort who ⟨more, .idle⟩)

/-- The other turns of an agent (R67, R158, R297; log 13): an operation in progress goes on; a held consumer and an agent
with nothing to issue have no step. And the change of the application thread behind port A (R11, R287; log 12): a TRANSMIT
in progress waits, or a waiting one comes to the port, and nothing else changes. -/
def Obligations.OtherTurns : Prop :=
  (∀ (s : State) (who : Agent) (steps : Nat) (rest : List Move), s.schedule = .agent who steps :: rest →
    ((s.port who).stage ≠ .idle →
      step s = advance who (steps + 1) { s with schedule := rest, turn := ⟨who, steps⟩ }) ∧
      ((s.port who).stage = .idle → who = .c → consumerHeld s = true →
        step s = .next { s with schedule := rest, turn := ⟨who, steps⟩ }) ∧
      (s.port who = ⟨[], .idle⟩ → step s = .next { s with schedule := rest, turn := ⟨who, steps⟩ })) ∧
    ∀ (s : State) (k : Nat) (rest : List Move), s.schedule = .thread k :: rest →
      (s.portA.stage ≠ .idle → s.transmits.length < k →
        step s = .next { s with
          schedule := rest
          transmits := s.transmits ++ [s.portA.stage]
          portA := { s.portA with stage := .idle } }) ∧
        (∀ st, s.portA.stage ≠ .idle → s.transmits[k]? = some st →
          step s = .next { s with
            schedule := rest
            transmits := s.transmits.eraseIdx k ++ [s.portA.stage]
            portA := { s.portA with stage := st } }) ∧
        (∀ st, s.portA.stage = .idle → s.transmits[k]? = some st →
          step s = .next { s with
            schedule := rest
            transmits := s.transmits.eraseIdx k
            portA := { s.portA with stage := st } }) ∧
        ((s.portA.stage = .idle ∧ s.transmits.length ≤ k) ∨ (s.portA.stage ≠ .idle ∧ k = s.transmits.length) →
          step s = .next { s with schedule := rest })

/-- A word placed is the operation the next step runs, from every state (log 6). -/
def Obligations.PlacedWordRuns : Prop :=
  ∀ (s : State) (nbits w : Nat) (i : Instr), decodeTableWord nbits w = some i →
    ∃ who : Agent, mayIssue who i = true ∧
      step (s.withFetchWord nbits w) =
        exec i ({ s with
          cwait := if who = Agent.c then false else s.cwait
          turn := ⟨who, 6⟩ }.setPort who { s.port who with stage := .idle })

/-- R67, R70: a turn of `m + n` steps is a turn of `m` steps followed by one of `n`: where a composite operation is cut
changes nothing unless another transition falls there. -/
def Obligations.TurnsSplitAnywhere : Prop :=
  ∀ (who : Agent) (m n : Nat) (s : State),
    advance who (m + n) s = andThen (advance who m s) (advance who n)

/-- R260, R269, R40, log 13: the environment's own moves: a frame is appended only while LINK = 1, dropped only while LINK = 0,
and nothing but WIRE_RX and the history changes. -/
def Obligations.EnvironmentMoves : Prop :=
  ∀ (s : State) (w : WireBytes) (k : Nat) (rest : List Move),
    (s.schedule = .inject w :: rest →
      (s.link = true → step s = .next { s with
        schedule := rest
        env := { s.env with wireRx := s.env.wireRx ++ [w] }
        history := .injected w :: s.history }) ∧
        (s.link = false → step s = .next { s with schedule := rest })) ∧
      (s.schedule = .lose k :: rest →
        (s.link = false → s.env.wireRx[k]? = some w → step s = .next { s with
          schedule := rest
          env := { s.env with wireRx := s.env.wireRx.eraseIdx k }
          history := .lost w :: s.history }) ∧
          (s.link = true ∨ s.env.wireRx.length ≤ k → step s = .next { s with schedule := rest }))

/-! ## The whole machine -/

/-- R280: what hardware reset leaves, for an instance of any parameters, in the registers the spec gives a value. -/
def Obligations.ResetRegisters : Prop :=
  ∀ c : Config,
    (State.resetWith c).lstate = .uninit ∧ (State.resetWith c).fault = 0 ∧ (State.resetWith c).cfg = none ∧
      (State.resetWith c).slots.length = c.n ∧
      (∀ i, (State.resetWith c).frameAt i = none ∧ (State.resetWith c).sizeAt i = none) ∧
      consumerHeld (State.resetWith c) = false ∧ (∀ who, ((State.resetWith c).port who).stage = .idle) ∧
      (State.resetWith c).transmits = []

/-- R26, R33, R37: the invariant holds after reset, for every admitted capacity and for the default instance. -/
def Obligations.ResetMeetsInvariant : Prop :=
  (∀ c : Config, 1 ≤ c.n → c.n ≤ 256 → (State.resetWith c).Inv ∧ (State.resetWith c).Owned) ∧
    State.reset.Inv ∧ State.reset.Owned

/-- R22, R26, R28, R31, R33, R165: every step of every state with the invariant keeps it. -/
def Obligations.StepKeepsInvariant : Prop :=
  ∀ s t : State, s.Inv → step s = .next t → t.Inv

/-- R71, R191, R248: between two steps of a composite operation the claim is still held on the slot it will name. -/
def Obligations.StepKeepsOwnership : Prop :=
  ∀ s t : State, s.Inv → s.Owned → step s = .next t → t.Owned

/-- The machine never stops: every step of a state with the invariant and the ownership answers a next state, whatever the
schedule, the requests and the environment's answers (R66, R252, R255). -/
def Obligations.StepAlwaysAnswers : Prop :=
  ∀ s : State, s.Inv → s.Owned → ∃ t, step s = .next t

/-- R6, R23 to R25: the cursors fit their registers. -/
def Obligations.CursorsFitTheirWidths : Prop :=
  ∀ s : State, s.Inv → ringUsable s = true →
    s.wr < 2 ^ ptrBits s.params.n ∧ s.rd < 2 ^ ptrBits s.params.n ∧ s.count < 2 ^ cntBits s.params.n ∧
      (slotRef s.wr).toNat = s.wr ∧ (slotRef s.rd).toNat = s.rd

/-- R28: a slot being filled is never a published one nor the one being drained, and the slot at RD with a published frame
is full or being drained. -/
def Obligations.SlotStatesExclusive : Prop :=
  ∀ s : State, s.Inv → ringUsable s = true →
    (s.pclaim = true → s.cclaim = true → s.wr ≠ s.rd) ∧
      (s.pclaim = true → ¬ slotOffset s s.wr < s.count ∧ slotState s s.wr = .filling) ∧
      (s.cclaim = true → slotOffset s s.rd < s.count ∧ slotState s s.rd = .draining) ∧
      (0 < s.count → s.cclaim = false → slotState s s.rd = .full)

/-- R164: the handoff operations move exactly one slot, each along its one arrow. -/
def Obligations.HandoffMovesOneSlot : Prop :=
  ∀ s : State, s.Inv → ringUsable s = true →
    (∀ t, exec .claimEmpty s = .next t → t.pclaim = true → s.pclaim = false →
      slotState s s.wr = .empty ∧ slotState t s.wr = .filling ∧
        ∀ j < s.params.n, j ≠ s.wr → slotState t j = slotState s j) ∧
      (∀ t slot size, exec (.publish slot size) s = .next t → t.count = s.count + 1 →
        slotState s s.wr = .filling ∧ slotState t s.wr = .full ∧
          ∀ j < s.params.n, j ≠ s.wr → slotState t j = slotState s j) ∧
      (∀ t timeout, exec (.claimFull timeout) s = .next t → t.cclaim = true → s.cclaim = false →
        slotState s s.rd = .full ∧ slotState t s.rd = .draining ∧
          ∀ j < s.params.n, j ≠ s.rd → slotState t j = slotState s j) ∧
      (∀ t slot, exec (.release slot) s = .next t → t.count ≠ s.count →
        slotState s s.rd = .draining ∧ slotState t s.rd = .empty ∧
          ∀ j < s.params.n, j ≠ s.rd → slotState t j = slotState s j)

/-- R26, R74, R163, R224: the published frames are a queue. A step appends one frame at its tail, or takes one from its
head, or empties it (START with the flush), or leaves it as it is. -/
def Obligations.PublishedFramesAreAQueue : Prop :=
  ∀ s t : State, s.Inv → ringUsable s = true → step s = .next t →
    t.queue = s.queue ∨ (∃ f, t.queue = s.queue ++ [f]) ∨ (∃ f, s.queue = f :: t.queue) ∨
      (t.queue = [] ∧ s.params.restartFlush = true ∧ s.lstate = .stopped ∧ t.lstate = .ready)

/-- R253, R254, R252: HALTED is for ever. No step leaves it, changes a register, gives a response or sends a frame. -/
def Obligations.HaltedIsForEver : Prop :=
  ∀ s t : State, s.lstate = .halted → step s = .next t →
    t.lstate = .halted ∧ t.fault = s.fault ∧ t.link = s.link ∧ t.cfg = s.cfg ∧ t.wr = s.wr ∧ t.rd = s.rd ∧
      t.count = s.count ∧ t.pclaim = s.pclaim ∧ t.cclaim = s.cclaim ∧ t.cwait = s.cwait ∧ t.ctmo = s.ctmo ∧
      t.slots = s.slots ∧ t.env.wireTx = s.env.wireTx ∧
      (∃ es, t.history = es ++ s.history ∧ ∀ who r, Event.response who r ∉ es)

/-- R223: the transitions of LSTATE. INIT, START and STOP make the three of them, each from its one state; a fault goes to
HALTED; nothing else changes it. -/
def Obligations.LifecycleTransitions : Prop :=
  (∀ (i : Instr) (s t : State), exec i s = .next t → t.lstate ≠ s.lstate → t.lstate ≠ .halted →
    (i = .init ∧ s.lstate = .uninit ∧ t.lstate = .stopped) ∨
      ((∃ cfg, i = .start cfg) ∧ s.lstate = .stopped ∧ t.lstate = .ready) ∨
      (i = .stop ∧ s.lstate = .ready ∧ t.lstate = .stopped)) ∧
    ∀ s t : State, step s = .next t → t.lstate ≠ s.lstate →
      t.lstate = .halted ∨ (s.lstate = .uninit ∧ t.lstate = .stopped) ∨
        (s.lstate = .stopped ∧ t.lstate = .ready) ∨ (s.lstate = .ready ∧ t.lstate = .stopped)

/-- R20, R22, R37, R201: each register is written only by the operations the register table lists, and an operation touches
no other agent's port and no waiting TRANSMIT (R99). -/
def Obligations.RegisterWriters : Prop :=
  ∀ (i : Instr) (s t : State), exec i s = .next t →
    ((∀ cfg, i ≠ .start cfg) → t.cfg = s.cfg) ∧
      (i ≠ .init → (∀ cfg, i ≠ .start cfg) → i ≠ .stop → t.link = s.link) ∧
      (i ≠ .init → (∀ cfg, i ≠ .start cfg) → (∀ a b, i ≠ .publish a b) → i ≠ .intake → t.wr = s.wr) ∧
      (i ≠ .init → (∀ cfg, i ≠ .start cfg) → (∀ a, i ≠ .release a) → (∀ m, i ≠ .receive m) → t.rd = s.rd) ∧
      (i ≠ .init → (∀ cfg, i ≠ .start cfg) → (∀ a b, i ≠ .publish a b) → i ≠ .intake → (∀ a, i ≠ .release a) →
        (∀ m, i ≠ .receive m) → t.count = s.count) ∧
      (i ≠ .init → i ≠ .claimEmpty → (∀ a b, i ≠ .publish a b) → i ≠ .intake → t.pclaim = s.pclaim) ∧
      (i ≠ .init → (∀ a, i ≠ .claimFull a) → (∀ a, i ≠ .release a) → (∀ m, i ≠ .receive m) →
        t.cclaim = s.cclaim) ∧
      (i ≠ .init → (∀ a, i ≠ .claimFull a) → t.cwait = s.cwait) ∧
      ((∀ a, i ≠ .claimFull a) → t.ctmo = s.ctmo) ∧
      (i ≠ .init → (∀ a f, i ≠ .slotWrite a f) → (∀ a b, i ≠ .publish a b) → i ≠ .intake → t.slots = s.slots) ∧
      ((∀ cfg, i ≠ .start cfg) → i ≠ .intake → t.env.wireRx = s.env.wireRx) ∧
      ((∀ m f, i ≠ .transmit m f) → t.env.wireTx = s.env.wireTx) ∧
      t.params = s.params ∧ t.schedule = s.schedule ∧ t.turn = s.turn ∧ t.transmits = s.transmits ∧
      (∀ other, other ≠ s.turn.agent → t.port other = s.port other)

/-- R38, R69, R71: an operation that stores, stores into SLOT[WR] alone (INIT, which clears every slot, apart): every other
slot keeps its frame and its size. -/
def Obligations.StoresTouchOneSlot : Prop :=
  ∀ (i : Instr) (s t : State) (j : Nat), i ≠ .init → exec i s = .next t → j ≠ s.wr →
    t.frameAt j = s.frameAt j ∧ t.sizeAt j = s.sizeAt j

/-- R130, R201, R226, R227: the transmit path, the codec and the no-op hooks neither read nor write the ring: they
commute with any change of its registers. -/
def Obligations.TransmitPathIgnoresRing : Prop :=
  ∀ (i : Instr) (s : State) (r : RingRegisters),
    ((∃ m f, i = .transmit m f) ∨ (∃ m, i = .isTxReady m) ∨ (∃ m, i = .abort m) ∨ (∃ f, i = .encode f) ∨
      (∃ w, i = .decode w) ∨ i = .sleep ∨ i = .wakeup) →
    exec i (s.withRing r) = mapNext (fun t => t.withRing r) (exec i s)

/-- R76, R151, R155, R256: the producer's primitives end in one step, with a response or a fault, whatever the consumer
does, and never hold. -/
def Obligations.ProducerNeverWaits : Prop :=
  ∀ (i : Instr) (s : State), s.Inv → s.turn.agent = .p → s.lstate ≠ .halted →
    (i = .claimEmpty ∨ (∃ a f, i = .slotWrite a f) ∨ (∃ a b, i = .publish a b)) →
    ∃ t, exec i s = .next t ∧ t.cwait = s.cwait ∧ t.portC = s.portC ∧
      ((∃ r, t.history.head? = some (.response .p r)) ∨ (∃ c, t.history.head? = some (.fault .p c)))

/-- R158: while the consumer is held, only a completion or an expiry ends the hold; the consumer's port does not move. -/
def Obligations.HoldEndsOnlyByItsMoves : Prop :=
  ∀ s t : State, ringUsable s = true → s.cwait = true → s.portC.stage = .idle →
    (nextMove s).1 ≠ .complete → (nextMove s).1 ≠ .expire → step s = .next t →
    t.cwait = true ∧ t.ctmo = s.ctmo ∧ t.portC = s.portC

/-- R33, R46, R254, R255, R47: what a run keeps. The first fault's code stays, the mark of a refused request stays, the history
only grows, and the parameters of the instance never change (log 3). -/
def Obligations.RecordsStay : Prop :=
  ∀ s t : State, step s = .next t →
    (s.fault ≠ 0 → t.fault = s.fault) ∧ (s.refusedMet = true → t.refusedMet = true) ∧
      (∃ es, t.history = es ++ s.history) ∧ t.params = s.params
end

