-- ==== Sys2Proof/Laws/Codec.lean ====
section
/-! SUPPORT. The bits and bytes of the packed forms and of the codec, one lemma per function: what stands at each bit or
byte of its result. -/

namespace Sys2Proof

/-- R92: byte `k` of the payload field is `DATA[k]`. -/
theorem byteOf_packPayload (d : Payload) (k : Nat) (h : k < 8) : byteOf (packPayload d) k = d[k] := by
  have e (i : Nat) : (packPayload d).getLsbD i =
    (((((((d[7] ++ d[6]) ++ d[5]) ++ d[4]) ++ d[3]) ++ d[2]) ++ d[1]) ++ d[0] :
      BitVec (8 + 8 + 8 + 8 + 8 + 8 + 8 + 8)).getLsbD i := rfl
  ext j hj
  simp only [byteOf, BitVec.getElem_extractLsb', e, BitVec.getLsbD_append]
  interval_cases k <;> repeat' split
  all_goals first | omega | (rw [← BitVec.getLsbD_eq_getElem]; congr 1; omega)

/-- R95: byte `k` of the port's value is `WB[k]`. -/
theorem byteOf_packWire (w : WireBytes) (k : Nat) (h : k < 16) : byteOf (packWire w) k = w[k] := by
  have e : packWire w =
    packPayload (Vector.ofFn fun k => w[8 + k.val]) ++ packPayload (Vector.ofFn fun k => w[k.val]) := rfl
  by_cases hk : k < 8
  · have : byteOf (packWire w) k = byteOf (packPayload (Vector.ofFn fun k => w[k.val])) k := by
      ext j hj
      simp only [byteOf, BitVec.getElem_extractLsb', e, BitVec.getLsbD_append]
      rw [if_pos (by omega)]
    rw [this, byteOf_packPayload _ _ hk, Vector.getElem_ofFn]
  · have : byteOf (packWire w) k = byteOf (packPayload (Vector.ofFn fun k => w[8 + k.val])) (k - 8) := by
      ext j hj
      simp only [byteOf, BitVec.getElem_extractLsb', e, BitVec.getLsbD_append]
      rw [if_neg (by omega)]
      congr 1
      omega
    rw [this, byteOf_packPayload _ _ (by omega), Vector.getElem_ofFn]
    congr 1
    show 8 + (k - 8) = k
    omega

/-- R92: the bits of a packed frame. -/
theorem packFrame_getLsbD (f : InternalFrame) (i : Nat) :
    (packFrame f).getLsbD i =
      if i = 0 then f.err else if i = 1 then f.rtr else if i = 2 then f.ext
      else if i < 32 then f.id.getLsbD (i - 3) else if i < 40 then f.len.getLsbD (i - 32)
      else (packPayload f.data).getLsbD (i - 40) := by
  have e : (packFrame f).getLsbD i =
    ((((((packPayload f.data ++ f.len) ++ f.id) ++ BitVec.ofBool f.ext) ++ BitVec.ofBool f.rtr) ++
      BitVec.ofBool f.err) : BitVec (64 + 8 + 29 + 1 + 1 + 1)).getLsbD i := rfl
  rw [e]
  simp only [BitVec.getLsbD_append, BitVec.getLsbD_ofBool]
  rcases i with _ | _ | _ | i
  · simp
  · simp
  · simp
  · simp
    repeat' split
    all_goals first | omega | rfl

namespace Machine

/-- R93, R131: the bits of the wire identifier. -/
theorem encodeWid_getLsbD (f : InternalFrame) (i : Nat) (h : i < 32) :
    (encodeWid f).getLsbD i =
      if i = 31 then f.ext else if i = 30 then f.rtr else if i = 29 then f.err else f.id.getLsbD i := by
  simp only [encodeWid, flagWord, extPos, rtrPos, errPos, BitVec.getLsbD_or, BitVec.getLsbD_shiftLeft,
    BitVec.getLsbD_setWidth, BitVec.getLsbD_ofBool]
  by_cases h31 : i = 31
  · subst h31; simp
  by_cases h30 : i = 30
  · subst h30; simp
  by_cases h29 : i = 29
  · subst h29; simp
  have : i < 29 := by omega
  simp [h, h31, h30, h29, this]
  omega

/-- R96: the bytes of a serialised frame. -/
theorem serialise_getElem (o : ByteOrder) (w : WireFrame) (j : Nat) (h : j < 16) :
    (serialise o w)[j] =
      if h8 : 8 ≤ j then w.wdata[j - 8] else if j = 4 then w.wlen
      else if j < 4 then orderedByte o 4 w.wid j else 0 := by
  simp only [serialise, memWrite, Vector.getElem_ofFn]
  split
  · rfl
  · simp only [Fin.getElem_fin, Vector.getElem_set, Vector.getElem_ofFn, Vector.getElem_replicate]
    by_cases h4 : j = 4
    · simp [h4]
    · simp [h4, Ne.symm h4]

/-- R97, R60: the identifier read back, in either order. -/
theorem memRead_four (o : ByteOrder) (wb : WireBytes) :
    memRead o wb 0 4 = match o with
      | .little => wb[3] ++ wb[2] ++ wb[1] ++ wb[0]
      | .big => wb[0] ++ wb[1] ++ wb[2] ++ wb[3] := by
  have h0 (x : Byte) : (0#0 ++ x : BitVec (0 + 8)) = x := by
    apply BitVec.eq_of_getLsbD_eq
    intro j hj
    have : (0#0 ++ x : BitVec (0 + 8)).getLsbD j = if j < 8 then x.getLsbD j else (0#0).getLsbD (j - 8) :=
      BitVec.getLsbD_append
    rw [this, if_pos (by omega)]
  cases o
  · exact congrArg (fun x : Byte => x ++ wb[2] ++ wb[1] ++ wb[0]) (h0 wb[3])
  · exact congrArg (fun x : Byte => x ++ wb[1] ++ wb[2] ++ wb[3]) (h0 wb[0])

end Machine

end Sys2Proof
end

