-- ==== Sys2Proof/Laws/State.lean ====
section
/-! SUPPORT. One lemma per field per update of the state: what each named update leaves unchanged and what it writes, so
that no later proof unfolds a record update. -/

namespace Sys2Proof.Machine

/-! ## log -/

@[simp] theorem State.log_params (s : State) (e : Event) : (s.log e).params = s.params := rfl
@[simp] theorem State.log_lstate (s : State) (e : Event) : (s.log e).lstate = s.lstate := rfl
@[simp] theorem State.log_link (s : State) (e : Event) : (s.log e).link = s.link := rfl
@[simp] theorem State.log_cfg (s : State) (e : Event) : (s.log e).cfg = s.cfg := rfl
@[simp] theorem State.log_fault (s : State) (e : Event) : (s.log e).fault = s.fault := rfl
@[simp] theorem State.log_wr (s : State) (e : Event) : (s.log e).wr = s.wr := rfl
@[simp] theorem State.log_rd (s : State) (e : Event) : (s.log e).rd = s.rd := rfl
@[simp] theorem State.log_count (s : State) (e : Event) : (s.log e).count = s.count := rfl
@[simp] theorem State.log_pclaim (s : State) (e : Event) : (s.log e).pclaim = s.pclaim := rfl
@[simp] theorem State.log_cclaim (s : State) (e : Event) : (s.log e).cclaim = s.cclaim := rfl
@[simp] theorem State.log_cwait (s : State) (e : Event) : (s.log e).cwait = s.cwait := rfl
@[simp] theorem State.log_ctmo (s : State) (e : Event) : (s.log e).ctmo = s.ctmo := rfl
@[simp] theorem State.log_slots (s : State) (e : Event) : (s.log e).slots = s.slots := rfl
@[simp] theorem State.log_refusedMet (s : State) (e : Event) : (s.log e).refusedMet = s.refusedMet := rfl
@[simp] theorem State.log_portP (s : State) (e : Event) : (s.log e).portP = s.portP := rfl
@[simp] theorem State.log_portC (s : State) (e : Event) : (s.log e).portC = s.portC := rfl
@[simp] theorem State.log_portA (s : State) (e : Event) : (s.log e).portA = s.portA := rfl
@[simp] theorem State.log_transmits (s : State) (e : Event) : (s.log e).transmits = s.transmits := rfl
@[simp] theorem State.log_env (s : State) (e : Event) : (s.log e).env = s.env := rfl
@[simp] theorem State.log_turn (s : State) (e : Event) : (s.log e).turn = s.turn := rfl
@[simp] theorem State.log_schedule (s : State) (e : Event) : (s.log e).schedule = s.schedule := rfl
@[simp] theorem State.log_draws (s : State) (e : Event) : (s.log e).draws = s.draws := rfl

/-! ## setPort -/

@[simp] theorem State.setPort_params (s : State) (who : Agent) (p : Port) :
    (s.setPort who p).params = s.params := by cases who <;> rfl
@[simp] theorem State.setPort_lstate (s : State) (who : Agent) (p : Port) :
    (s.setPort who p).lstate = s.lstate := by cases who <;> rfl
@[simp] theorem State.setPort_link (s : State) (who : Agent) (p : Port) :
    (s.setPort who p).link = s.link := by cases who <;> rfl
@[simp] theorem State.setPort_cfg (s : State) (who : Agent) (p : Port) :
    (s.setPort who p).cfg = s.cfg := by cases who <;> rfl
@[simp] theorem State.setPort_fault (s : State) (who : Agent) (p : Port) :
    (s.setPort who p).fault = s.fault := by cases who <;> rfl
@[simp] theorem State.setPort_wr (s : State) (who : Agent) (p : Port) :
    (s.setPort who p).wr = s.wr := by cases who <;> rfl
@[simp] theorem State.setPort_rd (s : State) (who : Agent) (p : Port) :
    (s.setPort who p).rd = s.rd := by cases who <;> rfl
@[simp] theorem State.setPort_count (s : State) (who : Agent) (p : Port) :
    (s.setPort who p).count = s.count := by cases who <;> rfl
@[simp] theorem State.setPort_pclaim (s : State) (who : Agent) (p : Port) :
    (s.setPort who p).pclaim = s.pclaim := by cases who <;> rfl
@[simp] theorem State.setPort_cclaim (s : State) (who : Agent) (p : Port) :
    (s.setPort who p).cclaim = s.cclaim := by cases who <;> rfl
@[simp] theorem State.setPort_cwait (s : State) (who : Agent) (p : Port) :
    (s.setPort who p).cwait = s.cwait := by cases who <;> rfl
@[simp] theorem State.setPort_ctmo (s : State) (who : Agent) (p : Port) :
    (s.setPort who p).ctmo = s.ctmo := by cases who <;> rfl
@[simp] theorem State.setPort_slots (s : State) (who : Agent) (p : Port) :
    (s.setPort who p).slots = s.slots := by cases who <;> rfl
@[simp] theorem State.setPort_refusedMet (s : State) (who : Agent) (p : Port) :
    (s.setPort who p).refusedMet = s.refusedMet := by cases who <;> rfl
@[simp] theorem State.setPort_transmits (s : State) (who : Agent) (p : Port) :
    (s.setPort who p).transmits = s.transmits := by cases who <;> rfl
@[simp] theorem State.setPort_env (s : State) (who : Agent) (p : Port) :
    (s.setPort who p).env = s.env := by cases who <;> rfl
@[simp] theorem State.setPort_turn (s : State) (who : Agent) (p : Port) :
    (s.setPort who p).turn = s.turn := by cases who <;> rfl
@[simp] theorem State.setPort_schedule (s : State) (who : Agent) (p : Port) :
    (s.setPort who p).schedule = s.schedule := by cases who <;> rfl
@[simp] theorem State.setPort_draws (s : State) (who : Agent) (p : Port) :
    (s.setPort who p).draws = s.draws := by cases who <;> rfl
@[simp] theorem State.setPort_history (s : State) (who : Agent) (p : Port) :
    (s.setPort who p).history = s.history := by cases who <;> rfl

/-! ## setStage -/

@[simp] theorem State.setStage_params (s : State) (who : Agent) (st : Stage) :
    (s.setStage who st).params = s.params := by cases who <;> rfl
@[simp] theorem State.setStage_lstate (s : State) (who : Agent) (st : Stage) :
    (s.setStage who st).lstate = s.lstate := by cases who <;> rfl
@[simp] theorem State.setStage_link (s : State) (who : Agent) (st : Stage) :
    (s.setStage who st).link = s.link := by cases who <;> rfl
@[simp] theorem State.setStage_cfg (s : State) (who : Agent) (st : Stage) :
    (s.setStage who st).cfg = s.cfg := by cases who <;> rfl
@[simp] theorem State.setStage_fault (s : State) (who : Agent) (st : Stage) :
    (s.setStage who st).fault = s.fault := by cases who <;> rfl
@[simp] theorem State.setStage_wr (s : State) (who : Agent) (st : Stage) :
    (s.setStage who st).wr = s.wr := by cases who <;> rfl
@[simp] theorem State.setStage_rd (s : State) (who : Agent) (st : Stage) :
    (s.setStage who st).rd = s.rd := by cases who <;> rfl
@[simp] theorem State.setStage_count (s : State) (who : Agent) (st : Stage) :
    (s.setStage who st).count = s.count := by cases who <;> rfl
@[simp] theorem State.setStage_pclaim (s : State) (who : Agent) (st : Stage) :
    (s.setStage who st).pclaim = s.pclaim := by cases who <;> rfl
@[simp] theorem State.setStage_cclaim (s : State) (who : Agent) (st : Stage) :
    (s.setStage who st).cclaim = s.cclaim := by cases who <;> rfl
@[simp] theorem State.setStage_cwait (s : State) (who : Agent) (st : Stage) :
    (s.setStage who st).cwait = s.cwait := by cases who <;> rfl
@[simp] theorem State.setStage_ctmo (s : State) (who : Agent) (st : Stage) :
    (s.setStage who st).ctmo = s.ctmo := by cases who <;> rfl
@[simp] theorem State.setStage_slots (s : State) (who : Agent) (st : Stage) :
    (s.setStage who st).slots = s.slots := by cases who <;> rfl
@[simp] theorem State.setStage_refusedMet (s : State) (who : Agent) (st : Stage) :
    (s.setStage who st).refusedMet = s.refusedMet := by cases who <;> rfl
@[simp] theorem State.setStage_transmits (s : State) (who : Agent) (st : Stage) :
    (s.setStage who st).transmits = s.transmits := by cases who <;> rfl
@[simp] theorem State.setStage_env (s : State) (who : Agent) (st : Stage) :
    (s.setStage who st).env = s.env := by cases who <;> rfl
@[simp] theorem State.setStage_turn (s : State) (who : Agent) (st : Stage) :
    (s.setStage who st).turn = s.turn := by cases who <;> rfl
@[simp] theorem State.setStage_schedule (s : State) (who : Agent) (st : Stage) :
    (s.setStage who st).schedule = s.schedule := by cases who <;> rfl
@[simp] theorem State.setStage_draws (s : State) (who : Agent) (st : Stage) :
    (s.setStage who st).draws = s.draws := by cases who <;> rfl
@[simp] theorem State.setStage_history (s : State) (who : Agent) (st : Stage) :
    (s.setStage who st).history = s.history := by cases who <;> rfl

/-! ## respond -/

@[simp] theorem State.respond_params (s : State) (who : Agent) (r : Response) :
    (s.respond who r).params = s.params := by cases who <;> rfl
@[simp] theorem State.respond_lstate (s : State) (who : Agent) (r : Response) :
    (s.respond who r).lstate = s.lstate := by cases who <;> rfl
@[simp] theorem State.respond_link (s : State) (who : Agent) (r : Response) :
    (s.respond who r).link = s.link := by cases who <;> rfl
@[simp] theorem State.respond_cfg (s : State) (who : Agent) (r : Response) :
    (s.respond who r).cfg = s.cfg := by cases who <;> rfl
@[simp] theorem State.respond_fault (s : State) (who : Agent) (r : Response) :
    (s.respond who r).fault = s.fault := by cases who <;> rfl
@[simp] theorem State.respond_wr (s : State) (who : Agent) (r : Response) :
    (s.respond who r).wr = s.wr := by cases who <;> rfl
@[simp] theorem State.respond_rd (s : State) (who : Agent) (r : Response) :
    (s.respond who r).rd = s.rd := by cases who <;> rfl
@[simp] theorem State.respond_count (s : State) (who : Agent) (r : Response) :
    (s.respond who r).count = s.count := by cases who <;> rfl
@[simp] theorem State.respond_pclaim (s : State) (who : Agent) (r : Response) :
    (s.respond who r).pclaim = s.pclaim := by cases who <;> rfl
@[simp] theorem State.respond_cclaim (s : State) (who : Agent) (r : Response) :
    (s.respond who r).cclaim = s.cclaim := by cases who <;> rfl
@[simp] theorem State.respond_cwait (s : State) (who : Agent) (r : Response) :
    (s.respond who r).cwait = s.cwait := by cases who <;> rfl
@[simp] theorem State.respond_ctmo (s : State) (who : Agent) (r : Response) :
    (s.respond who r).ctmo = s.ctmo := by cases who <;> rfl
@[simp] theorem State.respond_slots (s : State) (who : Agent) (r : Response) :
    (s.respond who r).slots = s.slots := by cases who <;> rfl
@[simp] theorem State.respond_refusedMet (s : State) (who : Agent) (r : Response) :
    (s.respond who r).refusedMet = s.refusedMet := by cases who <;> rfl
@[simp] theorem State.respond_transmits (s : State) (who : Agent) (r : Response) :
    (s.respond who r).transmits = s.transmits := by cases who <;> rfl
@[simp] theorem State.respond_env (s : State) (who : Agent) (r : Response) :
    (s.respond who r).env = s.env := by cases who <;> rfl
@[simp] theorem State.respond_turn (s : State) (who : Agent) (r : Response) :
    (s.respond who r).turn = s.turn := by cases who <;> rfl
@[simp] theorem State.respond_schedule (s : State) (who : Agent) (r : Response) :
    (s.respond who r).schedule = s.schedule := by cases who <;> rfl
@[simp] theorem State.respond_draws (s : State) (who : Agent) (r : Response) :
    (s.respond who r).draws = s.draws := by cases who <;> rfl

/-! ## takeFault -/

@[simp] theorem State.takeFault_params (s : State) (who : Agent) (c : FaultCode) :
    (s.takeFault who c).params = s.params := by cases who <;> rfl
@[simp] theorem State.takeFault_link (s : State) (who : Agent) (c : FaultCode) :
    (s.takeFault who c).link = s.link := by cases who <;> rfl
@[simp] theorem State.takeFault_cfg (s : State) (who : Agent) (c : FaultCode) :
    (s.takeFault who c).cfg = s.cfg := by cases who <;> rfl
@[simp] theorem State.takeFault_wr (s : State) (who : Agent) (c : FaultCode) :
    (s.takeFault who c).wr = s.wr := by cases who <;> rfl
@[simp] theorem State.takeFault_rd (s : State) (who : Agent) (c : FaultCode) :
    (s.takeFault who c).rd = s.rd := by cases who <;> rfl
@[simp] theorem State.takeFault_count (s : State) (who : Agent) (c : FaultCode) :
    (s.takeFault who c).count = s.count := by cases who <;> rfl
@[simp] theorem State.takeFault_pclaim (s : State) (who : Agent) (c : FaultCode) :
    (s.takeFault who c).pclaim = s.pclaim := by cases who <;> rfl
@[simp] theorem State.takeFault_cclaim (s : State) (who : Agent) (c : FaultCode) :
    (s.takeFault who c).cclaim = s.cclaim := by cases who <;> rfl
@[simp] theorem State.takeFault_cwait (s : State) (who : Agent) (c : FaultCode) :
    (s.takeFault who c).cwait = s.cwait := by cases who <;> rfl
@[simp] theorem State.takeFault_ctmo (s : State) (who : Agent) (c : FaultCode) :
    (s.takeFault who c).ctmo = s.ctmo := by cases who <;> rfl
@[simp] theorem State.takeFault_slots (s : State) (who : Agent) (c : FaultCode) :
    (s.takeFault who c).slots = s.slots := by cases who <;> rfl
@[simp] theorem State.takeFault_refusedMet (s : State) (who : Agent) (c : FaultCode) :
    (s.takeFault who c).refusedMet = s.refusedMet := by cases who <;> rfl
@[simp] theorem State.takeFault_transmits (s : State) (who : Agent) (c : FaultCode) :
    (s.takeFault who c).transmits = s.transmits := by cases who <;> rfl
@[simp] theorem State.takeFault_env (s : State) (who : Agent) (c : FaultCode) :
    (s.takeFault who c).env = s.env := by cases who <;> rfl
@[simp] theorem State.takeFault_turn (s : State) (who : Agent) (c : FaultCode) :
    (s.takeFault who c).turn = s.turn := by cases who <;> rfl
@[simp] theorem State.takeFault_schedule (s : State) (who : Agent) (c : FaultCode) :
    (s.takeFault who c).schedule = s.schedule := by cases who <;> rfl
@[simp] theorem State.takeFault_draws (s : State) (who : Agent) (c : FaultCode) :
    (s.takeFault who c).draws = s.draws := by cases who <;> rfl

/-! ## markRefused -/

@[simp] theorem State.markRefused_params (s : State) (who : Agent) :
    (s.markRefused who).params = s.params := by cases who <;> rfl
@[simp] theorem State.markRefused_lstate (s : State) (who : Agent) :
    (s.markRefused who).lstate = s.lstate := by cases who <;> rfl
@[simp] theorem State.markRefused_link (s : State) (who : Agent) :
    (s.markRefused who).link = s.link := by cases who <;> rfl
@[simp] theorem State.markRefused_cfg (s : State) (who : Agent) :
    (s.markRefused who).cfg = s.cfg := by cases who <;> rfl
@[simp] theorem State.markRefused_fault (s : State) (who : Agent) :
    (s.markRefused who).fault = s.fault := by cases who <;> rfl
@[simp] theorem State.markRefused_wr (s : State) (who : Agent) : (s.markRefused who).wr = s.wr := by cases who <;> rfl
@[simp] theorem State.markRefused_rd (s : State) (who : Agent) : (s.markRefused who).rd = s.rd := by cases who <;> rfl
@[simp] theorem State.markRefused_count (s : State) (who : Agent) :
    (s.markRefused who).count = s.count := by cases who <;> rfl
@[simp] theorem State.markRefused_pclaim (s : State) (who : Agent) :
    (s.markRefused who).pclaim = s.pclaim := by cases who <;> rfl
@[simp] theorem State.markRefused_cclaim (s : State) (who : Agent) :
    (s.markRefused who).cclaim = s.cclaim := by cases who <;> rfl
@[simp] theorem State.markRefused_cwait (s : State) (who : Agent) :
    (s.markRefused who).cwait = s.cwait := by cases who <;> rfl
@[simp] theorem State.markRefused_ctmo (s : State) (who : Agent) :
    (s.markRefused who).ctmo = s.ctmo := by cases who <;> rfl
@[simp] theorem State.markRefused_slots (s : State) (who : Agent) :
    (s.markRefused who).slots = s.slots := by cases who <;> rfl
@[simp] theorem State.markRefused_transmits (s : State) (who : Agent) :
    (s.markRefused who).transmits = s.transmits := by cases who <;> rfl
@[simp] theorem State.markRefused_env (s : State) (who : Agent) :
    (s.markRefused who).env = s.env := by cases who <;> rfl
@[simp] theorem State.markRefused_turn (s : State) (who : Agent) :
    (s.markRefused who).turn = s.turn := by cases who <;> rfl
@[simp] theorem State.markRefused_schedule (s : State) (who : Agent) :
    (s.markRefused who).schedule = s.schedule := by cases who <;> rfl
@[simp] theorem State.markRefused_draws (s : State) (who : Agent) :
    (s.markRefused who).draws = s.draws := by cases who <;> rfl

/-! ## putFrame -/

@[simp] theorem State.putFrame_params (s : State) (i : Nat) (f : InternalFrame) :
    (s.putFrame i f).params = s.params := rfl
@[simp] theorem State.putFrame_lstate (s : State) (i : Nat) (f : InternalFrame) :
    (s.putFrame i f).lstate = s.lstate := rfl
@[simp] theorem State.putFrame_link (s : State) (i : Nat) (f : InternalFrame) : (s.putFrame i f).link = s.link := rfl
@[simp] theorem State.putFrame_cfg (s : State) (i : Nat) (f : InternalFrame) : (s.putFrame i f).cfg = s.cfg := rfl
@[simp] theorem State.putFrame_fault (s : State) (i : Nat) (f : InternalFrame) :
    (s.putFrame i f).fault = s.fault := rfl
@[simp] theorem State.putFrame_wr (s : State) (i : Nat) (f : InternalFrame) : (s.putFrame i f).wr = s.wr := rfl
@[simp] theorem State.putFrame_rd (s : State) (i : Nat) (f : InternalFrame) : (s.putFrame i f).rd = s.rd := rfl
@[simp] theorem State.putFrame_count (s : State) (i : Nat) (f : InternalFrame) :
    (s.putFrame i f).count = s.count := rfl
@[simp] theorem State.putFrame_pclaim (s : State) (i : Nat) (f : InternalFrame) :
    (s.putFrame i f).pclaim = s.pclaim := rfl
@[simp] theorem State.putFrame_cclaim (s : State) (i : Nat) (f : InternalFrame) :
    (s.putFrame i f).cclaim = s.cclaim := rfl
@[simp] theorem State.putFrame_cwait (s : State) (i : Nat) (f : InternalFrame) :
    (s.putFrame i f).cwait = s.cwait := rfl
@[simp] theorem State.putFrame_ctmo (s : State) (i : Nat) (f : InternalFrame) : (s.putFrame i f).ctmo = s.ctmo := rfl
@[simp] theorem State.putFrame_refusedMet (s : State) (i : Nat) (f : InternalFrame) :
    (s.putFrame i f).refusedMet = s.refusedMet := rfl
@[simp] theorem State.putFrame_portP (s : State) (i : Nat) (f : InternalFrame) :
    (s.putFrame i f).portP = s.portP := rfl
@[simp] theorem State.putFrame_portC (s : State) (i : Nat) (f : InternalFrame) :
    (s.putFrame i f).portC = s.portC := rfl
@[simp] theorem State.putFrame_portA (s : State) (i : Nat) (f : InternalFrame) :
    (s.putFrame i f).portA = s.portA := rfl
@[simp] theorem State.putFrame_transmits (s : State) (i : Nat) (f : InternalFrame) :
    (s.putFrame i f).transmits = s.transmits := rfl
@[simp] theorem State.putFrame_env (s : State) (i : Nat) (f : InternalFrame) : (s.putFrame i f).env = s.env := rfl
@[simp] theorem State.putFrame_turn (s : State) (i : Nat) (f : InternalFrame) : (s.putFrame i f).turn = s.turn := rfl
@[simp] theorem State.putFrame_schedule (s : State) (i : Nat) (f : InternalFrame) :
    (s.putFrame i f).schedule = s.schedule := rfl
@[simp] theorem State.putFrame_draws (s : State) (i : Nat) (f : InternalFrame) :
    (s.putFrame i f).draws = s.draws := rfl
@[simp] theorem State.putFrame_history (s : State) (i : Nat) (f : InternalFrame) :
    (s.putFrame i f).history = s.history := rfl

/-! ## putSize -/

@[simp] theorem State.putSize_params (s : State) (i : Nat) (z : Byte) : (s.putSize i z).params = s.params := rfl
@[simp] theorem State.putSize_lstate (s : State) (i : Nat) (z : Byte) : (s.putSize i z).lstate = s.lstate := rfl
@[simp] theorem State.putSize_link (s : State) (i : Nat) (z : Byte) : (s.putSize i z).link = s.link := rfl
@[simp] theorem State.putSize_cfg (s : State) (i : Nat) (z : Byte) : (s.putSize i z).cfg = s.cfg := rfl
@[simp] theorem State.putSize_fault (s : State) (i : Nat) (z : Byte) : (s.putSize i z).fault = s.fault := rfl
@[simp] theorem State.putSize_wr (s : State) (i : Nat) (z : Byte) : (s.putSize i z).wr = s.wr := rfl
@[simp] theorem State.putSize_rd (s : State) (i : Nat) (z : Byte) : (s.putSize i z).rd = s.rd := rfl
@[simp] theorem State.putSize_count (s : State) (i : Nat) (z : Byte) : (s.putSize i z).count = s.count := rfl
@[simp] theorem State.putSize_pclaim (s : State) (i : Nat) (z : Byte) : (s.putSize i z).pclaim = s.pclaim := rfl
@[simp] theorem State.putSize_cclaim (s : State) (i : Nat) (z : Byte) : (s.putSize i z).cclaim = s.cclaim := rfl
@[simp] theorem State.putSize_cwait (s : State) (i : Nat) (z : Byte) : (s.putSize i z).cwait = s.cwait := rfl
@[simp] theorem State.putSize_ctmo (s : State) (i : Nat) (z : Byte) : (s.putSize i z).ctmo = s.ctmo := rfl
@[simp] theorem State.putSize_refusedMet (s : State) (i : Nat) (z : Byte) :
    (s.putSize i z).refusedMet = s.refusedMet := rfl
@[simp] theorem State.putSize_portP (s : State) (i : Nat) (z : Byte) : (s.putSize i z).portP = s.portP := rfl
@[simp] theorem State.putSize_portC (s : State) (i : Nat) (z : Byte) : (s.putSize i z).portC = s.portC := rfl
@[simp] theorem State.putSize_portA (s : State) (i : Nat) (z : Byte) : (s.putSize i z).portA = s.portA := rfl
@[simp] theorem State.putSize_transmits (s : State) (i : Nat) (z : Byte) :
    (s.putSize i z).transmits = s.transmits := rfl
@[simp] theorem State.putSize_env (s : State) (i : Nat) (z : Byte) : (s.putSize i z).env = s.env := rfl
@[simp] theorem State.putSize_turn (s : State) (i : Nat) (z : Byte) : (s.putSize i z).turn = s.turn := rfl
@[simp] theorem State.putSize_schedule (s : State) (i : Nat) (z : Byte) : (s.putSize i z).schedule = s.schedule := rfl
@[simp] theorem State.putSize_draws (s : State) (i : Nat) (z : Byte) : (s.putSize i z).draws = s.draws := rfl
@[simp] theorem State.putSize_history (s : State) (i : Nat) (z : Byte) : (s.putSize i z).history = s.history := rfl

/-! ## published -/

@[simp] theorem State.published_params (s : State) (size : Byte) : (s.published size).params = s.params := rfl
@[simp] theorem State.published_lstate (s : State) (size : Byte) : (s.published size).lstate = s.lstate := rfl
@[simp] theorem State.published_link (s : State) (size : Byte) : (s.published size).link = s.link := rfl
@[simp] theorem State.published_cfg (s : State) (size : Byte) : (s.published size).cfg = s.cfg := rfl
@[simp] theorem State.published_fault (s : State) (size : Byte) : (s.published size).fault = s.fault := rfl
@[simp] theorem State.published_rd (s : State) (size : Byte) : (s.published size).rd = s.rd := rfl
@[simp] theorem State.published_cclaim (s : State) (size : Byte) : (s.published size).cclaim = s.cclaim := rfl
@[simp] theorem State.published_cwait (s : State) (size : Byte) : (s.published size).cwait = s.cwait := rfl
@[simp] theorem State.published_ctmo (s : State) (size : Byte) : (s.published size).ctmo = s.ctmo := rfl
@[simp] theorem State.published_refusedMet (s : State) (size : Byte) :
    (s.published size).refusedMet = s.refusedMet := rfl
@[simp] theorem State.published_portP (s : State) (size : Byte) : (s.published size).portP = s.portP := rfl
@[simp] theorem State.published_portC (s : State) (size : Byte) : (s.published size).portC = s.portC := rfl
@[simp] theorem State.published_portA (s : State) (size : Byte) : (s.published size).portA = s.portA := rfl
@[simp] theorem State.published_transmits (s : State) (size : Byte) :
    (s.published size).transmits = s.transmits := rfl
@[simp] theorem State.published_env (s : State) (size : Byte) : (s.published size).env = s.env := rfl
@[simp] theorem State.published_turn (s : State) (size : Byte) : (s.published size).turn = s.turn := rfl
@[simp] theorem State.published_schedule (s : State) (size : Byte) : (s.published size).schedule = s.schedule := rfl
@[simp] theorem State.published_draws (s : State) (size : Byte) : (s.published size).draws = s.draws := rfl

/-! ## released -/

@[simp] theorem State.released_params (s : State) : s.released.params = s.params := rfl
@[simp] theorem State.released_lstate (s : State) : s.released.lstate = s.lstate := rfl
@[simp] theorem State.released_link (s : State) : s.released.link = s.link := rfl
@[simp] theorem State.released_cfg (s : State) : s.released.cfg = s.cfg := rfl
@[simp] theorem State.released_fault (s : State) : s.released.fault = s.fault := rfl
@[simp] theorem State.released_wr (s : State) : s.released.wr = s.wr := rfl
@[simp] theorem State.released_pclaim (s : State) : s.released.pclaim = s.pclaim := rfl
@[simp] theorem State.released_cwait (s : State) : s.released.cwait = s.cwait := rfl
@[simp] theorem State.released_ctmo (s : State) : s.released.ctmo = s.ctmo := rfl
@[simp] theorem State.released_slots (s : State) : s.released.slots = s.slots := rfl
@[simp] theorem State.released_refusedMet (s : State) : s.released.refusedMet = s.refusedMet := rfl
@[simp] theorem State.released_portP (s : State) : s.released.portP = s.portP := rfl
@[simp] theorem State.released_portC (s : State) : s.released.portC = s.portC := rfl
@[simp] theorem State.released_portA (s : State) : s.released.portA = s.portA := rfl
@[simp] theorem State.released_transmits (s : State) : s.released.transmits = s.transmits := rfl
@[simp] theorem State.released_env (s : State) : s.released.env = s.env := rfl
@[simp] theorem State.released_turn (s : State) : s.released.turn = s.turn := rfl
@[simp] theorem State.released_schedule (s : State) : s.released.schedule = s.schedule := rfl
@[simp] theorem State.released_draws (s : State) : s.released.draws = s.draws := rfl
@[simp] theorem State.released_history (s : State) : s.released.history = s.history := rfl

/-! ## hold -/

@[simp] theorem State.hold_params (s : State) (timeout : Word32) : (s.hold timeout).params = s.params := rfl
@[simp] theorem State.hold_lstate (s : State) (timeout : Word32) : (s.hold timeout).lstate = s.lstate := rfl
@[simp] theorem State.hold_link (s : State) (timeout : Word32) : (s.hold timeout).link = s.link := rfl
@[simp] theorem State.hold_cfg (s : State) (timeout : Word32) : (s.hold timeout).cfg = s.cfg := rfl
@[simp] theorem State.hold_fault (s : State) (timeout : Word32) : (s.hold timeout).fault = s.fault := rfl
@[simp] theorem State.hold_wr (s : State) (timeout : Word32) : (s.hold timeout).wr = s.wr := rfl
@[simp] theorem State.hold_rd (s : State) (timeout : Word32) : (s.hold timeout).rd = s.rd := rfl
@[simp] theorem State.hold_count (s : State) (timeout : Word32) : (s.hold timeout).count = s.count := rfl
@[simp] theorem State.hold_pclaim (s : State) (timeout : Word32) : (s.hold timeout).pclaim = s.pclaim := rfl
@[simp] theorem State.hold_cclaim (s : State) (timeout : Word32) : (s.hold timeout).cclaim = s.cclaim := rfl
@[simp] theorem State.hold_slots (s : State) (timeout : Word32) : (s.hold timeout).slots = s.slots := rfl
@[simp] theorem State.hold_refusedMet (s : State) (timeout : Word32) :
    (s.hold timeout).refusedMet = s.refusedMet := rfl
@[simp] theorem State.hold_portP (s : State) (timeout : Word32) : (s.hold timeout).portP = s.portP := rfl
@[simp] theorem State.hold_portC (s : State) (timeout : Word32) : (s.hold timeout).portC = s.portC := rfl
@[simp] theorem State.hold_portA (s : State) (timeout : Word32) : (s.hold timeout).portA = s.portA := rfl
@[simp] theorem State.hold_transmits (s : State) (timeout : Word32) : (s.hold timeout).transmits = s.transmits := rfl
@[simp] theorem State.hold_env (s : State) (timeout : Word32) : (s.hold timeout).env = s.env := rfl
@[simp] theorem State.hold_turn (s : State) (timeout : Word32) : (s.hold timeout).turn = s.turn := rfl
@[simp] theorem State.hold_schedule (s : State) (timeout : Word32) : (s.hold timeout).schedule = s.schedule := rfl
@[simp] theorem State.hold_draws (s : State) (timeout : Word32) : (s.hold timeout).draws = s.draws := rfl

/-! ## initialised -/

@[simp] theorem State.initialised_params (s : State) : s.initialised.params = s.params := rfl
@[simp] theorem State.initialised_cfg (s : State) : s.initialised.cfg = s.cfg := rfl
@[simp] theorem State.initialised_fault (s : State) : s.initialised.fault = s.fault := rfl
@[simp] theorem State.initialised_ctmo (s : State) : s.initialised.ctmo = s.ctmo := rfl
@[simp] theorem State.initialised_refusedMet (s : State) : s.initialised.refusedMet = s.refusedMet := rfl
@[simp] theorem State.initialised_portP (s : State) : s.initialised.portP = s.portP := rfl
@[simp] theorem State.initialised_portC (s : State) : s.initialised.portC = s.portC := rfl
@[simp] theorem State.initialised_portA (s : State) : s.initialised.portA = s.portA := rfl
@[simp] theorem State.initialised_transmits (s : State) : s.initialised.transmits = s.transmits := rfl
@[simp] theorem State.initialised_env (s : State) : s.initialised.env = s.env := rfl
@[simp] theorem State.initialised_turn (s : State) : s.initialised.turn = s.turn := rfl
@[simp] theorem State.initialised_schedule (s : State) : s.initialised.schedule = s.schedule := rfl
@[simp] theorem State.initialised_draws (s : State) : s.initialised.draws = s.draws := rfl
@[simp] theorem State.initialised_history (s : State) : s.initialised.history = s.history := rfl

/-! ## restartFlush -/

@[simp] theorem State.restartFlush_params (s : State) :
    s.restartFlush.params = s.params := by unfold State.restartFlush; split <;> rfl
@[simp] theorem State.restartFlush_lstate (s : State) :
    s.restartFlush.lstate = s.lstate := by unfold State.restartFlush; split <;> rfl
@[simp] theorem State.restartFlush_link (s : State) :
    s.restartFlush.link = s.link := by unfold State.restartFlush; split <;> rfl
@[simp] theorem State.restartFlush_cfg (s : State) :
    s.restartFlush.cfg = s.cfg := by unfold State.restartFlush; split <;> rfl
@[simp] theorem State.restartFlush_fault (s : State) :
    s.restartFlush.fault = s.fault := by unfold State.restartFlush; split <;> rfl
@[simp] theorem State.restartFlush_pclaim (s : State) :
    s.restartFlush.pclaim = s.pclaim := by unfold State.restartFlush; split <;> rfl
@[simp] theorem State.restartFlush_cclaim (s : State) :
    s.restartFlush.cclaim = s.cclaim := by unfold State.restartFlush; split <;> rfl
@[simp] theorem State.restartFlush_cwait (s : State) :
    s.restartFlush.cwait = s.cwait := by unfold State.restartFlush; split <;> rfl
@[simp] theorem State.restartFlush_ctmo (s : State) :
    s.restartFlush.ctmo = s.ctmo := by unfold State.restartFlush; split <;> rfl
@[simp] theorem State.restartFlush_slots (s : State) :
    s.restartFlush.slots = s.slots := by unfold State.restartFlush; split <;> rfl
@[simp] theorem State.restartFlush_refusedMet (s : State) :
    s.restartFlush.refusedMet = s.refusedMet := by unfold State.restartFlush; split <;> rfl
@[simp] theorem State.restartFlush_portP (s : State) :
    s.restartFlush.portP = s.portP := by unfold State.restartFlush; split <;> rfl
@[simp] theorem State.restartFlush_portC (s : State) :
    s.restartFlush.portC = s.portC := by unfold State.restartFlush; split <;> rfl
@[simp] theorem State.restartFlush_portA (s : State) :
    s.restartFlush.portA = s.portA := by unfold State.restartFlush; split <;> rfl
@[simp] theorem State.restartFlush_transmits (s : State) :
    s.restartFlush.transmits = s.transmits := by unfold State.restartFlush; split <;> rfl
@[simp] theorem State.restartFlush_env (s : State) :
    s.restartFlush.env = s.env := by unfold State.restartFlush; split <;> rfl
@[simp] theorem State.restartFlush_turn (s : State) :
    s.restartFlush.turn = s.turn := by unfold State.restartFlush; split <;> rfl
@[simp] theorem State.restartFlush_schedule (s : State) :
    s.restartFlush.schedule = s.schedule := by unfold State.restartFlush; split <;> rfl
@[simp] theorem State.restartFlush_draws (s : State) :
    s.restartFlush.draws = s.draws := by unfold State.restartFlush; split <;> rfl
@[simp] theorem State.restartFlush_history (s : State) :
    s.restartFlush.history = s.history := by unfold State.restartFlush; split <;> rfl

/-! ## linkUp -/

@[simp] theorem State.linkUp_params (s : State) (fresh : List WireBytes) :
    (s.linkUp fresh).params = s.params := by unfold State.linkUp State.restartFlush; split <;> rfl
@[simp] theorem State.linkUp_cfg (s : State) (fresh : List WireBytes) :
    (s.linkUp fresh).cfg = s.cfg := by unfold State.linkUp State.restartFlush; split <;> rfl
@[simp] theorem State.linkUp_fault (s : State) (fresh : List WireBytes) :
    (s.linkUp fresh).fault = s.fault := by unfold State.linkUp State.restartFlush; split <;> rfl
@[simp] theorem State.linkUp_pclaim (s : State) (fresh : List WireBytes) :
    (s.linkUp fresh).pclaim = s.pclaim := by unfold State.linkUp State.restartFlush; split <;> rfl
@[simp] theorem State.linkUp_cclaim (s : State) (fresh : List WireBytes) :
    (s.linkUp fresh).cclaim = s.cclaim := by unfold State.linkUp State.restartFlush; split <;> rfl
@[simp] theorem State.linkUp_cwait (s : State) (fresh : List WireBytes) :
    (s.linkUp fresh).cwait = s.cwait := by unfold State.linkUp State.restartFlush; split <;> rfl
@[simp] theorem State.linkUp_ctmo (s : State) (fresh : List WireBytes) :
    (s.linkUp fresh).ctmo = s.ctmo := by unfold State.linkUp State.restartFlush; split <;> rfl
@[simp] theorem State.linkUp_slots (s : State) (fresh : List WireBytes) :
    (s.linkUp fresh).slots = s.slots := by unfold State.linkUp State.restartFlush; split <;> rfl
@[simp] theorem State.linkUp_refusedMet (s : State) (fresh : List WireBytes) :
    (s.linkUp fresh).refusedMet = s.refusedMet := by unfold State.linkUp State.restartFlush; split <;> rfl
@[simp] theorem State.linkUp_portP (s : State) (fresh : List WireBytes) :
    (s.linkUp fresh).portP = s.portP := by unfold State.linkUp State.restartFlush; split <;> rfl
@[simp] theorem State.linkUp_portC (s : State) (fresh : List WireBytes) :
    (s.linkUp fresh).portC = s.portC := by unfold State.linkUp State.restartFlush; split <;> rfl
@[simp] theorem State.linkUp_portA (s : State) (fresh : List WireBytes) :
    (s.linkUp fresh).portA = s.portA := by unfold State.linkUp State.restartFlush; split <;> rfl
@[simp] theorem State.linkUp_transmits (s : State) (fresh : List WireBytes) :
    (s.linkUp fresh).transmits = s.transmits := by unfold State.linkUp State.restartFlush; split <;> rfl
@[simp] theorem State.linkUp_turn (s : State) (fresh : List WireBytes) :
    (s.linkUp fresh).turn = s.turn := by unfold State.linkUp State.restartFlush; split <;> rfl
@[simp] theorem State.linkUp_schedule (s : State) (fresh : List WireBytes) :
    (s.linkUp fresh).schedule = s.schedule := by unfold State.linkUp State.restartFlush; split <;> rfl
@[simp] theorem State.linkUp_draws (s : State) (fresh : List WireBytes) :
    (s.linkUp fresh).draws = s.draws := by unfold State.linkUp State.restartFlush; split <;> rfl

/-! ## linkDown -/

@[simp] theorem State.linkDown_params (s : State) : s.linkDown.params = s.params := rfl
@[simp] theorem State.linkDown_cfg (s : State) : s.linkDown.cfg = s.cfg := rfl
@[simp] theorem State.linkDown_fault (s : State) : s.linkDown.fault = s.fault := rfl
@[simp] theorem State.linkDown_wr (s : State) : s.linkDown.wr = s.wr := rfl
@[simp] theorem State.linkDown_rd (s : State) : s.linkDown.rd = s.rd := rfl
@[simp] theorem State.linkDown_count (s : State) : s.linkDown.count = s.count := rfl
@[simp] theorem State.linkDown_pclaim (s : State) : s.linkDown.pclaim = s.pclaim := rfl
@[simp] theorem State.linkDown_cclaim (s : State) : s.linkDown.cclaim = s.cclaim := rfl
@[simp] theorem State.linkDown_cwait (s : State) : s.linkDown.cwait = s.cwait := rfl
@[simp] theorem State.linkDown_ctmo (s : State) : s.linkDown.ctmo = s.ctmo := rfl
@[simp] theorem State.linkDown_slots (s : State) : s.linkDown.slots = s.slots := rfl
@[simp] theorem State.linkDown_refusedMet (s : State) : s.linkDown.refusedMet = s.refusedMet := rfl
@[simp] theorem State.linkDown_portP (s : State) : s.linkDown.portP = s.portP := rfl
@[simp] theorem State.linkDown_portC (s : State) : s.linkDown.portC = s.portC := rfl
@[simp] theorem State.linkDown_portA (s : State) : s.linkDown.portA = s.portA := rfl
@[simp] theorem State.linkDown_transmits (s : State) : s.linkDown.transmits = s.transmits := rfl
@[simp] theorem State.linkDown_env (s : State) : s.linkDown.env = s.env := rfl
@[simp] theorem State.linkDown_turn (s : State) : s.linkDown.turn = s.turn := rfl
@[simp] theorem State.linkDown_schedule (s : State) : s.linkDown.schedule = s.schedule := rfl
@[simp] theorem State.linkDown_draws (s : State) : s.linkDown.draws = s.draws := rfl
@[simp] theorem State.linkDown_history (s : State) : s.linkDown.history = s.history := rfl

/-! ## switchThread -/

@[simp] theorem State.switchThread_params (s : State) (k : Nat) : (s.switchThread k).params = s.params := rfl
@[simp] theorem State.switchThread_lstate (s : State) (k : Nat) : (s.switchThread k).lstate = s.lstate := rfl
@[simp] theorem State.switchThread_link (s : State) (k : Nat) : (s.switchThread k).link = s.link := rfl
@[simp] theorem State.switchThread_cfg (s : State) (k : Nat) : (s.switchThread k).cfg = s.cfg := rfl
@[simp] theorem State.switchThread_fault (s : State) (k : Nat) : (s.switchThread k).fault = s.fault := rfl
@[simp] theorem State.switchThread_wr (s : State) (k : Nat) : (s.switchThread k).wr = s.wr := rfl
@[simp] theorem State.switchThread_rd (s : State) (k : Nat) : (s.switchThread k).rd = s.rd := rfl
@[simp] theorem State.switchThread_count (s : State) (k : Nat) : (s.switchThread k).count = s.count := rfl
@[simp] theorem State.switchThread_pclaim (s : State) (k : Nat) : (s.switchThread k).pclaim = s.pclaim := rfl
@[simp] theorem State.switchThread_cclaim (s : State) (k : Nat) : (s.switchThread k).cclaim = s.cclaim := rfl
@[simp] theorem State.switchThread_cwait (s : State) (k : Nat) : (s.switchThread k).cwait = s.cwait := rfl
@[simp] theorem State.switchThread_ctmo (s : State) (k : Nat) : (s.switchThread k).ctmo = s.ctmo := rfl
@[simp] theorem State.switchThread_slots (s : State) (k : Nat) : (s.switchThread k).slots = s.slots := rfl
@[simp] theorem State.switchThread_refusedMet (s : State) (k : Nat) :
    (s.switchThread k).refusedMet = s.refusedMet := rfl
@[simp] theorem State.switchThread_portP (s : State) (k : Nat) : (s.switchThread k).portP = s.portP := rfl
@[simp] theorem State.switchThread_portC (s : State) (k : Nat) : (s.switchThread k).portC = s.portC := rfl
@[simp] theorem State.switchThread_env (s : State) (k : Nat) : (s.switchThread k).env = s.env := rfl
@[simp] theorem State.switchThread_turn (s : State) (k : Nat) : (s.switchThread k).turn = s.turn := rfl
@[simp] theorem State.switchThread_schedule (s : State) (k : Nat) : (s.switchThread k).schedule = s.schedule := rfl
@[simp] theorem State.switchThread_draws (s : State) (k : Nat) : (s.switchThread k).draws = s.draws := rfl
@[simp] theorem State.switchThread_history (s : State) (k : Nat) : (s.switchThread k).history = s.history := rfl

/-! ## dropHead -/

@[simp] theorem State.dropHead_params (s : State) (w : WireBytes) (rest : List WireBytes) (e : WireBytes → Event) :
    (s.dropHead w rest e).params = s.params := rfl
@[simp] theorem State.dropHead_lstate (s : State) (w : WireBytes) (rest : List WireBytes) (e : WireBytes → Event) :
    (s.dropHead w rest e).lstate = s.lstate := rfl
@[simp] theorem State.dropHead_link (s : State) (w : WireBytes) (rest : List WireBytes) (e : WireBytes → Event) :
    (s.dropHead w rest e).link = s.link := rfl
@[simp] theorem State.dropHead_cfg (s : State) (w : WireBytes) (rest : List WireBytes) (e : WireBytes → Event) :
    (s.dropHead w rest e).cfg = s.cfg := rfl
@[simp] theorem State.dropHead_fault (s : State) (w : WireBytes) (rest : List WireBytes) (e : WireBytes → Event) :
    (s.dropHead w rest e).fault = s.fault := rfl
@[simp] theorem State.dropHead_wr (s : State) (w : WireBytes) (rest : List WireBytes) (e : WireBytes → Event) :
    (s.dropHead w rest e).wr = s.wr := rfl
@[simp] theorem State.dropHead_rd (s : State) (w : WireBytes) (rest : List WireBytes) (e : WireBytes → Event) :
    (s.dropHead w rest e).rd = s.rd := rfl
@[simp] theorem State.dropHead_count (s : State) (w : WireBytes) (rest : List WireBytes) (e : WireBytes → Event) :
    (s.dropHead w rest e).count = s.count := rfl
@[simp] theorem State.dropHead_pclaim (s : State) (w : WireBytes) (rest : List WireBytes) (e : WireBytes → Event) :
    (s.dropHead w rest e).pclaim = s.pclaim := rfl
@[simp] theorem State.dropHead_cclaim (s : State) (w : WireBytes) (rest : List WireBytes) (e : WireBytes → Event) :
    (s.dropHead w rest e).cclaim = s.cclaim := rfl
@[simp] theorem State.dropHead_cwait (s : State) (w : WireBytes) (rest : List WireBytes) (e : WireBytes → Event) :
    (s.dropHead w rest e).cwait = s.cwait := rfl
@[simp] theorem State.dropHead_ctmo (s : State) (w : WireBytes) (rest : List WireBytes) (e : WireBytes → Event) :
    (s.dropHead w rest e).ctmo = s.ctmo := rfl
@[simp] theorem State.dropHead_slots (s : State) (w : WireBytes) (rest : List WireBytes) (e : WireBytes → Event) :
    (s.dropHead w rest e).slots = s.slots := rfl
@[simp] theorem State.dropHead_refusedMet (s : State) (w : WireBytes) (rest : List WireBytes) (e : WireBytes → Event) :
    (s.dropHead w rest e).refusedMet = s.refusedMet := rfl
@[simp] theorem State.dropHead_portP (s : State) (w : WireBytes) (rest : List WireBytes) (e : WireBytes → Event) :
    (s.dropHead w rest e).portP = s.portP := rfl
@[simp] theorem State.dropHead_portC (s : State) (w : WireBytes) (rest : List WireBytes) (e : WireBytes → Event) :
    (s.dropHead w rest e).portC = s.portC := rfl
@[simp] theorem State.dropHead_portA (s : State) (w : WireBytes) (rest : List WireBytes) (e : WireBytes → Event) :
    (s.dropHead w rest e).portA = s.portA := rfl
@[simp] theorem State.dropHead_transmits (s : State) (w : WireBytes) (rest : List WireBytes) (e : WireBytes → Event) :
    (s.dropHead w rest e).transmits = s.transmits := rfl
@[simp] theorem State.dropHead_turn (s : State) (w : WireBytes) (rest : List WireBytes) (e : WireBytes → Event) :
    (s.dropHead w rest e).turn = s.turn := rfl
@[simp] theorem State.dropHead_schedule (s : State) (w : WireBytes) (rest : List WireBytes) (e : WireBytes → Event) :
    (s.dropHead w rest e).schedule = s.schedule := rfl
@[simp] theorem State.dropHead_draws (s : State) (w : WireBytes) (rest : List WireBytes) (e : WireBytes → Event) :
    (s.dropHead w rest e).draws = s.draws := rfl

/-! ## What an update writes -/

@[simp] theorem State.log_history (s : State) (e : Event) : (s.log e).history = e :: s.history := rfl
@[simp] theorem State.respond_history (s : State) (who : Agent) (r : Response) :
    (s.respond who r).history = .response who r :: s.history := by cases who <;> rfl
@[simp] theorem State.markRefused_history (s : State) (who : Agent) :
    (s.markRefused who).history = .refused who :: s.history := by cases who <;> rfl
@[simp] theorem State.takeFault_history (s : State) (who : Agent) (c : FaultCode) :
    (s.takeFault who c).history = .fault who c :: s.history := by cases who <;> rfl
@[simp] theorem State.takeFault_lstate (s : State) (who : Agent) (c : FaultCode) :
    (s.takeFault who c).lstate = .halted := by cases who <;> rfl
@[simp] theorem State.takeFault_fault (s : State) (who : Agent) (c : FaultCode) :
    (s.takeFault who c).fault = if s.fault = 0 then faultCode c else s.fault := by cases who <;> rfl
@[simp] theorem State.markRefused_refusedMet (s : State) (who : Agent) :
    (s.markRefused who).refusedMet = true := by cases who <;> rfl
@[simp] theorem State.putFrame_slots (s : State) (i : Nat) (f : InternalFrame) :
    (s.putFrame i f).slots = s.slots.modify i fun slot => { slot with frame := some f } := rfl
@[simp] theorem State.putSize_slots (s : State) (i : Nat) (z : Byte) :
    (s.putSize i z).slots = s.slots.modify i fun slot => { slot with size := some z } := rfl
@[simp] theorem State.published_slots (s : State) (z : Byte) :
    (s.published z).slots = s.slots.modify s.wr fun slot => { slot with size := some z } := rfl
@[simp] theorem State.published_count (s : State) (z : Byte) : (s.published z).count = s.count + 1 := rfl
@[simp] theorem State.published_wr (s : State) (z : Byte) : (s.published z).wr = (s.wr + 1) % s.params.n := rfl
@[simp] theorem State.published_pclaim (s : State) (z : Byte) : (s.published z).pclaim = false := rfl
@[simp] theorem State.published_history (s : State) (z : Byte) : (s.published z).history = .wake :: s.history := rfl
@[simp] theorem State.released_count (s : State) : s.released.count = s.count - 1 := rfl
@[simp] theorem State.released_rd (s : State) : s.released.rd = (s.rd + 1) % s.params.n := rfl
@[simp] theorem State.released_cclaim (s : State) : s.released.cclaim = false := rfl
@[simp] theorem State.hold_cwait (s : State) (t : Word32) : (s.hold t).cwait = true := rfl
@[simp] theorem State.hold_ctmo (s : State) (t : Word32) : (s.hold t).ctmo = t := rfl
@[simp] theorem State.hold_history (s : State) (t : Word32) : (s.hold t).history = .hold :: s.history := rfl
@[simp] theorem State.initialised_lstate (s : State) : s.initialised.lstate = .stopped := rfl
@[simp] theorem State.initialised_link (s : State) : s.initialised.link = false := rfl
@[simp] theorem State.initialised_wr (s : State) : s.initialised.wr = 0 := rfl
@[simp] theorem State.initialised_rd (s : State) : s.initialised.rd = 0 := rfl
@[simp] theorem State.initialised_count (s : State) : s.initialised.count = 0 := rfl
@[simp] theorem State.initialised_pclaim (s : State) : s.initialised.pclaim = false := rfl
@[simp] theorem State.initialised_cclaim (s : State) : s.initialised.cclaim = false := rfl
@[simp] theorem State.initialised_cwait (s : State) : s.initialised.cwait = false := rfl
@[simp] theorem State.initialised_slots (s : State) :
    s.initialised.slots = List.replicate s.params.n ⟨none, none⟩ := rfl
@[simp] theorem State.linkUp_lstate (s : State) (fresh : List WireBytes) : (s.linkUp fresh).lstate = .ready := rfl
@[simp] theorem State.linkUp_link (s : State) (fresh : List WireBytes) : (s.linkUp fresh).link = true := rfl
@[simp] theorem State.linkUp_env (s : State) (fresh : List WireBytes) :
    (s.linkUp fresh).env = { s.env with wireRx := s.env.wireRx ++ fresh } := rfl
@[simp] theorem State.linkUp_wr (s : State) (fresh : List WireBytes) :
    (s.linkUp fresh).wr = s.restartFlush.wr := rfl
@[simp] theorem State.linkUp_rd (s : State) (fresh : List WireBytes) :
    (s.linkUp fresh).rd = s.restartFlush.rd := rfl
@[simp] theorem State.linkUp_count (s : State) (fresh : List WireBytes) :
    (s.linkUp fresh).count = s.restartFlush.count := rfl
@[simp] theorem State.linkDown_lstate (s : State) : s.linkDown.lstate = .stopped := rfl
@[simp] theorem State.linkDown_link (s : State) : s.linkDown.link = false := rfl
@[simp] theorem State.dropHead_env (s : State) (w : WireBytes) (rest : List WireBytes) (e : WireBytes → Event) :
    (s.dropHead w rest e).env = { s.env with wireRx := rest } := rfl
@[simp] theorem State.dropHead_history (s : State) (w : WireBytes) (rest : List WireBytes) (e : WireBytes → Event) :
    (s.dropHead w rest e).history = e w :: s.history := rfl

/-- Another thread acts: the TRANSMIT in progress on port A waits, behind those that wait already. -/
theorem State.switchThread_away {s : State} (h : s.portA.stage ≠ .idle) :
    s.switchThread (s.transmits.length + 1) =
      { s with transmits := s.transmits ++ [s.portA.stage], portA := { s.portA with stage := .idle } } := by
  simp [State.switchThread, h, List.eraseIdx_of_length_le]

/-- A waiting TRANSMIT comes back to the free port A. -/
theorem State.switchThread_back {s : State} {k : Nat} {st : Stage} (h : s.portA.stage = .idle)
    (hk : s.transmits[k]? = some st) :
    s.switchThread k = { s with transmits := s.transmits.eraseIdx k, portA := { s.portA with stage := st } } := by
  simp [State.switchThread, h, hk]

/-- Every stage that waits or stands at port A after a switch waited or stood there before it, or is idle. -/
theorem State.switchThread_stages {s : State} {k : Nat} {P : Stage → Prop} (hidle : P .idle)
    (hport : P s.portA.stage) (hwait : ∀ st ∈ s.transmits, P st) :
    P (s.switchThread k).portA.stage ∧ ∀ st ∈ (s.switchThread k).transmits, P st := by
  have hall : ∀ st ∈ (if s.portA.stage = .idle then s.transmits else s.transmits ++ [s.portA.stage]), P st := by
    intro st hst
    split at hst
    · exact hwait st hst
    · rcases List.mem_append.1 hst with h | h
      · exact hwait st h
      · rw [List.mem_singleton.1 h]; exact hport
  refine ⟨?_, fun st hst => hall st (List.mem_of_mem_eraseIdx hst)⟩
  simp only [State.switchThread]
  rcases h : (if s.portA.stage = .idle then s.transmits else s.transmits ++ [s.portA.stage])[k]? with _ | st
  · exact hidle
  · exact hall st (List.mem_of_getElem? h)

/-! ## Ports -/

@[simp] theorem State.port_p (s : State) : s.port .p = s.portP := rfl
@[simp] theorem State.port_c (s : State) : s.port .c = s.portC := rfl
@[simp] theorem State.port_a (s : State) : s.port .a = s.portA := rfl
@[simp] theorem State.switchThread_pending (s : State) (k : Nat) :
    (s.switchThread k).portA.pending = s.portA.pending := rfl
@[simp] theorem State.log_port (s : State) (e : Event) (who : Agent) : (s.log e).port who = s.port who := by
  cases who <;> rfl
@[simp] theorem State.setPort_port (s : State) (who : Agent) (p : Port) : (s.setPort who p).port who = p := by
  cases who <;> rfl
theorem State.setPort_port_other (s : State) {who other : Agent} (h : other ≠ who) (p : Port) :
    (s.setPort who p).port other = s.port other := by
  cases who <;> cases other <;> first | rfl | exact absurd rfl h
@[simp] theorem State.setStage_port (s : State) (who : Agent) (st : Stage) :
    (s.setStage who st).port who = { s.port who with stage := st } := by cases who <;> rfl
theorem State.setStage_port_other (s : State) {who other : Agent} (h : other ≠ who) (st : Stage) :
    (s.setStage who st).port other = s.port other := by
  cases who <;> cases other <;> first | rfl | exact absurd rfl h

end Sys2Proof.Machine
end

