-- ==== Sys2Proof/Laws/Ops.lean ====
section
/-! SUPPORT. One lemma per shared operation that says once everything it can do, in the form `Ends P F r`: a next state
has `P`, a stop has `F`, and nothing is refused as not modelled. Provers cite these instead of unfolding the operation.
Then the equations of the common checks, and the form of slot space. -/

namespace Sys2Proof.Machine

/-- A next state of `r` has `P`, a stop of `r` has `F`, and `r` is no refusal. -/
def Ends (P : State → Prop) (F : Fault → Prop) (r : Result) : Prop :=
  match r with
  | .next s => P s
  | .fault f => F f
  | .refused _ => False

variable {P : State → Prop} {F : Fault → Prop}

theorem ends_next {s : State} : Ends P F (.next s) ↔ P s := Iff.rfl

theorem ends_fault {f : Fault} : Ends P F (.fault f) ↔ F f := Iff.rfl

theorem ends_respond {who : Agent} {r : Response} {s : State} :
    Ends P F (respond who r s) ↔ P (s.respond who r) := Iff.rfl

theorem ends_raise {who : Agent} {c : FaultCode} {s : State} :
    Ends P F (raise who c s) ↔ P (s.takeFault who c) := Iff.rfl

theorem ends_refuse {who : Agent} {s : State} : Ends P F (refuse who s) ↔ P (s.markRefused who) := Iff.rfl

/-- What `Ends` says of a next state. -/
theorem Ends.of_next {r : Result} {t : State} (h : Ends P F r) (e : r = .next t) : P t := by
  subst e; exact h

/-- Where no stop is possible, there is a next state. -/
theorem Ends.exists_next {r : Result} (h : Ends P (fun _ => False) r) : ∃ t, r = .next t ∧ P t := by
  cases r with
  | next s => exact ⟨s, rfl, h⟩
  | fault f => exact h.elim
  | refused x => exact h.elim

theorem ends_mono {Q : State → Prop} (h : ∀ t, Q t → P t) {r : Result} (hr : Ends Q F r) : Ends P F r := by
  cases r with
  | next s => exact h s hr
  | fault f => exact hr
  | refused x => exact hr

theorem ends_andThen {r : Result} {k : State → Result} (h : Ends (fun t => Ends P F (k t)) F r) :
    Ends P F (andThen r k) := by
  cases r with
  | next s => exact h
  | fault f => exact h
  | refused x => exact h

/-! ## The common checks -/

theorem request_ends {i : Instr} {body : Agent → State → Result} {s : State}
    (hrefuse : P ((s.log (.request s.turn.agent i)).markRefused s.turn.agent))
    (hbody : s.lstate ≠ .halted → mayIssue s.turn.agent i = true →
      Ends P F (body s.turn.agent (s.log (.request s.turn.agent i)))) :
    Ends P F (request i body s) := by
  unfold request
  dsimp only
  split
  · exact ends_refuse.2 hrefuse
  · split
    · exact hbody ‹_› ‹_›
    · exact ends_refuse.2 hrefuse

theorem illegalRequest_ends {op : Byte} {s : State}
    (hrefuse : P ((s.log (.illegal s.turn.agent op)).markRefused s.turn.agent))
    (hraise : s.lstate ≠ .halted → P ((s.log (.illegal s.turn.agent op)).takeFault s.turn.agent .illegalOp)) :
    Ends P F (illegalRequest op s) := by
  unfold illegalRequest
  dsimp only
  split
  · exact ends_refuse.2 hrefuse
  · exact ends_raise.2 (hraise ‹_›)

theorem needInit_ends {who : Agent} {k : State → Result} {s : State}
    (hraise : P (s.takeFault who .notInitialized)) (hk : s.lstate ≠ .uninit → Ends P F (k s)) :
    Ends P F (needInit who k s) := by
  unfold needInit
  split
  · exact ends_raise.2 hraise
  · exact hk ‹_›

theorem needReady_ends {who : Agent} {k : State → Result} {s : State}
    (hraise : P (s.takeFault who .notReady)) (hk : s.lstate = .ready → Ends P F (k s)) :
    Ends P F (needReady who k s) := by
  unfold needReady
  split
  · exact hk ‹_›
  · exact ends_raise.2 hraise

theorem needMailbox_ends {who : Agent} {mbox : Byte} {k : State → Result} {s : State}
    (hrefuse : P (s.markRefused who)) (hraise : P (s.takeFault who .invalidMailbox)) (hk : Ends P F (k s)) :
    Ends P F (needMailbox who mbox k s) := by
  unfold needMailbox
  split
  · exact hk
  · exact ends_refuse.2 hrefuse
  · exact ends_raise.2 hraise

theorem request_halted {i : Instr} {body : Agent → State → Result} {s : State} (h : s.lstate = .halted) :
    request i body s = .next ((s.log (.request s.turn.agent i)).markRefused s.turn.agent) := by
  simp [request, h, refuse]

theorem request_wrongPort {i : Instr} {body : Agent → State → Result} {s : State} (h : s.lstate ≠ .halted)
    (hp : mayIssue s.turn.agent i = false) :
    request i body s = .next ((s.log (.request s.turn.agent i)).markRefused s.turn.agent) := by
  simp [request, h, hp, refuse]

theorem request_runs {i : Instr} {body : Agent → State → Result} {s : State} (h : s.lstate ≠ .halted)
    (hp : mayIssue s.turn.agent i = true) :
    request i body s = body s.turn.agent (s.log (.request s.turn.agent i)) := by
  simp [request, h, hp]

theorem needInit_runs {who : Agent} {k : State → Result} {s : State} (h : s.lstate ≠ .uninit) :
    needInit who k s = k s := by simp [needInit, h]

theorem needReady_runs {who : Agent} {k : State → Result} {s : State} (h : s.lstate = .ready) :
    needReady who k s = k s := by simp [needReady, h]

theorem needMailbox_zero {who : Agent} {k : State → Result} {s : State} : needMailbox who 0 k s = k s := rfl

/-! ## Slot space -/

theorem withSlot_ends {i : Nat} {k : Slot → State → Result} {s : State}
    (hk : ∀ slot, s.slots[i]? = some slot → Ends P F (k slot s))
    (hout : s.slots.length ≤ i → F .slotOutside) : Ends P F (withSlot i k s) := by
  unfold withSlot
  split
  · exact hk _ ‹_›
  · exact hout (List.getElem?_eq_none_iff.1 ‹_›)

theorem withSlot_inside {i : Nat} {k : Slot → State → Result} {s : State} (h : i < s.slots.length) :
    withSlot i k s = k s.slots[i] s := by
  simp [withSlot, List.getElem?_eq_getElem h]

theorem memory_wf_iff {n : Nat} {m : Memory} : Memory.wf n m = true ↔ m.length = n := by simp [Memory.wf]

/-- Storing a frame keeps the form of slot space. -/
theorem putFrame_wf {n : Nat} {s : State} {i : Nat} {f : InternalFrame} (h : Memory.wf n s.slots = true) :
    Memory.wf n (s.putFrame i f).slots = true := by simp_all [Memory.wf]

/-- Storing a size keeps the form of slot space. -/
theorem putSize_wf {n : Nat} {s : State} {i : Nat} {z : Byte} (h : Memory.wf n s.slots = true) :
    Memory.wf n (s.putSize i z).slots = true := by simp_all [Memory.wf]

/-- INIT's slot space has the form. -/
theorem initialised_wf {s : State} : Memory.wf s.params.n s.initialised.slots = true := by simp [Memory.wf]

/-- The slot space after reset has the form. -/
theorem reset_wf {c : Config} : Memory.wf c.n (State.resetWith c).slots = true := by
  simp [Memory.wf, State.resetWith]

/-- A frame stored is the frame read. -/
theorem putFrame_frameAt {s : State} {i : Nat} {f : InternalFrame} (h : i < s.slots.length) :
    (s.putFrame i f).frameAt i = some f := by
  simp [State.frameAt, List.getElem?_eq_getElem h]

/-- Storing a frame leaves every other slot alone. -/
theorem putFrame_frameAt_other {s : State} {i j : Nat} {f : InternalFrame} (h : j ≠ i) :
    (s.putFrame i f).frameAt j = s.frameAt j := by
  simp [State.frameAt, Ne.symm h]

/-- Storing a size leaves every frame alone. -/
theorem putSize_frameAt {s : State} {i j : Nat} {z : Byte} : (s.putSize i z).frameAt j = s.frameAt j := by
  simp only [State.frameAt, State.putSize_slots, List.getElem?_modify]
  by_cases h : i = j
  · subst h; cases s.slots[i]? <;> simp
  · simp [h]

/-- Storing a frame leaves every size alone. -/
theorem putFrame_sizeAt {s : State} {i j : Nat} {f : InternalFrame} : (s.putFrame i f).sizeAt j = s.sizeAt j := by
  simp only [State.sizeAt, State.putFrame_slots, List.getElem?_modify]
  by_cases h : i = j
  · subst h; cases s.slots[i]? <;> simp
  · simp [h]

/-! ## The ring -/

theorem claimEmpty_ends {who : Agent} {k : Option Byte → State → Result} {s : State}
    (hraise : s.pclaim = true → P (s.takeFault who .doubleClaimEmpty))
    (hfull : s.pclaim = false → s.count = s.params.n → Ends P F (k none s))
    (hslot : s.pclaim = false → s.count ≠ s.params.n → Ends P F (k (some (slotRef s.wr)) { s with pclaim := true })) :
    Ends P F (claimEmpty who k s) := by
  unfold claimEmpty ringFull
  split
  · exact ends_raise.2 (hraise ‹_›)
  · split
    · exact hfull (by simp_all) (by simp_all)
    · exact hslot (by simp_all) (by simp_all)

theorem slotWrite_ends {who : Agent} {slot : Byte} {f : InternalFrame} {k : State → Result}
    {s : State} (hraise : P (s.takeFault who .slotWriteNotOwned))
    (hk : s.pclaim = true → slot.toNat = s.wr → s.wr < s.slots.length → Ends P F (k (s.putFrame s.wr f)))
    (hout : s.pclaim = true → s.slots.length ≤ s.wr → F .slotOutside) :
    Ends P F (slotWrite who slot f k s) := by
  unfold slotWrite
  split
  · exact ends_raise.2 hraise
  · exact withSlot_ends (fun cell hc => hk (by simp_all) (by simp_all) (List.getElem?_eq_some_iff.1 hc).1)
      (hout (by simp_all))

theorem publish_ends {who : Agent} {slot size : Byte} {k : State → Result} {s : State}
    (hraise : ∀ c, c = .publishNotClaimed ∨ c = .publishWrongSlot ∨ c = .publishBadSize → P (s.takeFault who c))
    (hk : s.pclaim = true → slot.toNat = s.wr → sizeAccepted size = true → s.wr < s.slots.length →
      Ends P F (k (s.published size)))
    (hout : s.pclaim = true → s.slots.length ≤ s.wr → F .slotOutside) :
    Ends P F (publish who slot size k s) := by
  unfold publish
  split
  · exact ends_raise.2 (hraise _ (by simp))
  · split
    · exact ends_raise.2 (hraise _ (by simp))
    · split
      · exact ends_raise.2 (hraise _ (by simp))
      · exact withSlot_ends
          (fun cell hc => hk (by simp_all) (by simp_all) (by simp_all) (List.getElem?_eq_some_iff.1 hc).1)
          (hout (by simp_all))

theorem claimFull_ends {who : Agent} {timeout : Word32} {k : ClaimAnswer → State → Result}
    {s : State} (hraise : s.cclaim = true → P (s.takeFault who .doubleClaimFull))
    (hslot : ∀ cell, s.cclaim = false → s.count ≠ 0 → s.slots[s.rd]? = some cell →
      Ends P F (k (.slot (slotRef s.rd) cell.size) { s with cclaim := true }))
    (hempty : s.cclaim = false → s.count = 0 → timeout = immediateTimeout → Ends P F (k .empty s))
    (hhold : s.cclaim = false → s.count = 0 → timeout ≠ immediateTimeout → P (s.hold timeout))
    (hout : s.count ≠ 0 → s.slots.length ≤ s.rd → F .slotOutside) :
    Ends P F (claimFull who timeout k s) := by
  unfold claimFull ringEmpty
  split
  · exact ends_raise.2 (hraise ‹_›)
  · split
    · exact withSlot_ends (fun cell hc => hslot cell (by simp_all) (by simp_all) hc) (hout (by simp_all))
    · split
      · exact hempty (by simp_all) (by simp_all) ‹_›
      · exact ends_next.2 (hhold (by simp_all) (by simp_all) ‹_›)

theorem slotRead_ends {who : Agent} {slot : Byte} {k : InternalFrame → State → Result} {s : State}
    (hraise : ∀ c, c = .slotReadNotOwned ∨ c = .unwrittenSlot → P (s.takeFault who c))
    (hk : ∀ f, s.cclaim = true → slot.toNat = s.rd → s.frameAt s.rd = some f → Ends P F (k f s))
    (hout : s.cclaim = true → s.slots.length ≤ s.rd → F .slotOutside) :
    Ends P F (slotRead who slot k s) := by
  unfold slotRead
  split
  · exact ends_raise.2 (hraise _ (by simp))
  · refine withSlot_ends (fun cell hc => ?_) (hout (by simp_all))
    split
    · exact ends_raise.2 (hraise _ (by simp))
    · exact hk _ (by simp_all) (by simp_all) (by simp_all [State.frameAt])

theorem release_ends {who : Agent} {slot : Byte} {k : State → Result} {s : State}
    (hraise : ∀ c, c = .releaseNotClaimed ∨ c = .releaseWrongSlot → P (s.takeFault who c))
    (hk : s.cclaim = true → slot.toNat = s.rd → Ends P F (k s.released)) :
    Ends P F (release who slot k s) := by
  unfold release
  split
  · exact ends_raise.2 (hraise _ (by simp))
  · split
    · exact ends_raise.2 (hraise _ (by simp))
    · exact hk (by simp_all) (by simp_all)

theorem completeHeld_ends {s : State} (hstay : P s)
    (hdone : ∀ cell, ringUsable s = true → s.cwait = true → s.count > 0 → s.cclaim = false →
      s.slots[s.rd]? = some cell →
      P (State.respond { s with cwait := false, cclaim := true } .c (.slotSize (slotRef s.rd) cell.size)))
    (hout : ringUsable s = true → s.count > 0 → s.slots.length ≤ s.rd → F .slotOutside) :
    Ends P F (completeHeld s) := by
  unfold completeHeld
  split
  · rename_i h
    exact withSlot_ends (fun cell hc => ends_respond.2 (hdone cell h.1 h.2.1 h.2.2.1 h.2.2.2 hc)) (hout h.1 h.2.2.1)
  · exact ends_next.2 hstay

theorem expireHeld_ends {s : State} (hstay : P s)
    (hdone : ringUsable s = true → s.cwait = true → s.ctmo ≠ infiniteTimeout →
      P (State.respond { s with cwait := false } .c .empty)) :
    Ends P F (expireHeld s) := by
  unfold expireHeld
  split
  · rename_i h
    exact ends_respond.2 (hdone h.1 h.2.1 h.2.2)
  · exact ends_next.2 hstay

/-! ## The wire side -/

theorem whileLinked_ends {who : Agent} {k : State → Result} {s : State}
    (hrefuse : s.link = false → P (s.markRefused who)) (hk : s.link = true → Ends P F (k s)) :
    Ends P F (whileLinked who k s) := by
  unfold whileLinked
  split
  · exact hk ‹_›
  · exact ends_refuse.2 (hrefuse (by simp_all))

theorem askOpen_ends {k : OpenAnswer → State → Result} {s : State}
    (hk : ∀ x opens draws, Ends P F (k x
      (State.log { s with env := { s.env with opens := opens }, draws := draws } (.opening s.cfg)))) :
    Ends P F (askOpen k s) := hk _ _ _

theorem askClose_ends {who : Agent} {k : Ack → State → Result} {s : State}
    (hrefuse : s.link = false → P (s.markRefused who))
    (hk : ∀ x closes draws, s.link = true →
      Ends P F (k x { s with env := { s.env with closes := closes }, draws := draws })) :
    Ends P F (askClose who k s) := whileLinked_ends hrefuse fun h => hk _ _ _ h

theorem askPollReadable_ends {who : Agent} {k : PollAnswer → State → Result} {s : State}
    (hrefuse : s.link = false → P (s.markRefused who))
    (hk : ∀ x pollReads draws, s.link = true →
      Ends P F (k x { s with env := { s.env with pollReads := pollReads }, draws := draws })) :
    Ends P F (askPollReadable who k s) := whileLinked_ends hrefuse fun h => hk _ _ _ h

theorem askPollWritable_ends {who : Agent} {k : PollAnswer → State → Result} {s : State}
    (hrefuse : s.link = false → P (s.markRefused who))
    (hk : ∀ x pollWrites draws, s.link = true →
      Ends P F (k x { s with env := { s.env with pollWrites := pollWrites }, draws := draws })) :
    Ends P F (askPollWritable who k s) := whileLinked_ends hrefuse fun h => hk _ _ _ h

theorem askRead_ends {who : Agent} {k : Option WireBytes → State → Result} {s : State}
    (hrefuse : s.link = false → P (s.markRefused who))
    (htaken : ∀ w rest reads draws, s.link = true → s.env.wireRx = w :: rest →
      Ends P F (k (some w)
        (State.dropHead { s with env := { s.env with reads := reads }, draws := draws } w rest .taken)))
    (hlost : ∀ w rest reads draws, s.link = true → s.env.wireRx = w :: rest →
      Ends P F (k none
        (State.dropHead { s with env := { s.env with reads := reads }, draws := draws } w rest .lost)))
    (hkept : ∀ reads draws, s.link = true →
      Ends P F (k none { s with env := { s.env with reads := reads }, draws := draws })) :
    Ends P F (askRead who k s) := by
  refine whileLinked_ends hrefuse fun h => ?_
  dsimp only
  split
  · exact htaken _ _ _ _ h ‹_›
  · exact hlost _ _ _ _ h ‹_›
  · exact hkept _ _ h
  · exact hkept _ _ h

theorem askWrite_ends {who : Agent} {w : WireBytes} {k : Ack → State → Result} {s : State}
    (hrefuse : s.link = false → P (s.markRefused who))
    (hok : ∀ writes draws, s.link = true →
      Ends P F (k .ok (State.log { s with
        env := { s.env with writes := writes, wireTx := s.env.wireTx ++ [w] }, draws := draws } (.sent w))))
    (hfailed : ∀ writes draws, s.link = true →
      Ends P F (k .failed { s with env := { s.env with writes := writes }, draws := draws })) :
    Ends P F (askWrite who w k s) := by
  refine whileLinked_ends hrefuse fun h => ?_
  dsimp only
  split
  · exact hok _ _ h
  · exact hfailed _ _ h

/-! ## Turns and moves -/

/-- Step 5 of INTAKE (R190, R191) in one: it stores, publishes, wakes and signals, or faults having written nothing. Its
PUBLISH cannot fault by itself. -/
theorem intakeStore_ends {who : Agent} {slot : Byte} {f : InternalFrame} {s : State}
    (hraise : P (s.takeFault who .slotWriteNotOwned))
    (hdone : s.pclaim = true → slot.toNat = s.wr → s.wr < s.slots.length →
      P ((((s.putFrame s.wr f).published intakeSize).log .rxEvent).setStage who .intakeReport))
    (hout : s.pclaim = true → s.slots.length ≤ s.wr → F .slotOutside) :
    Ends P F (stageStep who (.intakeStore slot f) s) := by
  refine slotWrite_ends hraise (fun hp hs hw => ?_) hout
  have hput : publish who slot intakeSize (fun s => .next ((s.log .rxEvent).setStage who .intakeReport))
      (s.putFrame s.wr f) =
        .next ((((s.putFrame s.wr f).published intakeSize).log .rxEvent).setStage who .intakeReport) := by
    simp [publish, hp, hs, show sizeAccepted intakeSize = true by decide, withSlot_inside, hw]
  rw [hput]
  exact ends_next.2 (hdone hp hs hw)

theorem advance_ends {who : Agent} (hstep : ∀ s, P s → s.lstate ≠ .halted →
      Ends P F (stageStep who (s.port who).stage s)) :
    ∀ (fuel : Nat) (s : State), P s → Ends P F (advance who fuel s)
  | 0, _, h => ends_next.2 h
  | fuel + 1, s, h => by
    unfold advance
    split
    · exact ends_next.2 h
    · rename_i hs
      exact ends_andThen (ends_mono (advance_ends hstep fuel) (hstep s h (fun x => hs (.inl x))))

theorem serveRequest_ends {who : Agent} {s : State} (hidle : P s)
    (hrun : ∀ r rest i, (s.port who).pending = r :: rest → decode r = .ok i →
      Ends P F (exec i (s.setPort who { s.port who with pending := rest })))
    (hbad : ∀ r rest op, (s.port who).pending = r :: rest → decode r = .error (.reservedOp op) →
      Ends P F (illegalRequest op (s.setPort who { s.port who with pending := rest }))) :
    Ends P F (serveRequest who s) := by
  unfold serveRequest
  split
  · exact ends_next.2 hidle
  · dsimp only
    split
    · exact hrun _ _ _ ‹_› ‹_›
    · exact hbad _ _ _ ‹_› ‹_›

theorem injectFrame_ends {w : WireBytes} {s : State} (hstay : P s)
    (hin : s.link = true →
      P (State.log { s with env := { s.env with wireRx := s.env.wireRx ++ [w] } } (.injected w))) :
    Ends P F (injectFrame w s) := by
  unfold injectFrame
  split
  · exact ends_next.2 (hin ‹_›)
  · exact ends_next.2 hstay

theorem loseFrame_ends {k : Nat} {s : State} (hstay : P s)
    (hout : ∀ w, s.link = false → s.env.wireRx[k]? = some w →
      P (State.log { s with env := { s.env with wireRx := s.env.wireRx.eraseIdx k } } (.lost w))) :
    Ends P F (loseFrame k s) := by
  unfold loseFrame
  split
  · split
    · exact ends_next.2 (hout _ ‹_› ‹_›)
    · exact ends_next.2 hstay
  · exact ends_next.2 hstay

end Sys2Proof.Machine
end

