-- ==== Sys2Proof/Laws/PerInstr.lean ====
section
/-! SUPPORT. The family EncodesItsFormat: one lemma per constructor of Instr. The encoder gives an operation the code of
the operation map (30_encoding R100), the map gives that code the operation's format, and the encoded request sets no
port the format does not name (R99). -/

namespace Sys2Proof.Laws.EncodesItsFormat

/-- The code, the format and the ports of `i`'s encoding agree with the operation map. -/
def Statement (i : Instr) : Prop :=
  (encode i).op = i.opcode ∧ formatOf i.opcode = some i.format ∧ readPorts (encode i) = encode i

theorem init : Statement .init := ⟨rfl, rfl, rfl⟩
theorem start (cfg : CfgName) : Statement (.start cfg) := ⟨rfl, rfl, rfl⟩
theorem stop : Statement .stop := ⟨rfl, rfl, rfl⟩
theorem sleep : Statement .sleep := ⟨rfl, rfl, rfl⟩
theorem wakeup : Statement .wakeup := ⟨rfl, rfl, rfl⟩
theorem encode (f : InternalFrame) : Statement (.encode f) := ⟨rfl, rfl, rfl⟩
theorem decode (w : WireBytes) : Statement (.decode w) := ⟨rfl, rfl, rfl⟩
theorem claimEmpty : Statement .claimEmpty := ⟨rfl, rfl, rfl⟩
theorem slotWrite (slot : Byte) (f : InternalFrame) : Statement (.slotWrite slot f) := ⟨rfl, rfl, rfl⟩
theorem publish (slot size : Byte) : Statement (.publish slot size) := ⟨rfl, rfl, rfl⟩
theorem claimFull (timeout : Word32) : Statement (.claimFull timeout) := ⟨rfl, rfl, rfl⟩
theorem slotRead (slot : Byte) : Statement (.slotRead slot) := ⟨rfl, rfl, rfl⟩
theorem release (slot : Byte) : Statement (.release slot) := ⟨rfl, rfl, rfl⟩
theorem intake : Statement .intake := ⟨rfl, rfl, rfl⟩
theorem receive (mbox : Byte) : Statement (.receive mbox) := ⟨rfl, rfl, rfl⟩
theorem transmit (mbox : Byte) (f : InternalFrame) : Statement (.transmit mbox f) := ⟨rfl, rfl, rfl⟩
theorem isRxNonempty (mbox : Byte) : Statement (.isRxNonempty mbox) := ⟨rfl, rfl, rfl⟩
theorem isTxReady (mbox : Byte) : Statement (.isTxReady mbox) := ⟨rfl, rfl, rfl⟩
theorem abort (mbox : Byte) : Statement (.abort mbox) := ⟨rfl, rfl, rfl⟩

end Sys2Proof.Laws.EncodesItsFormat
end

