-- ==== Sys2Proof/Tests/Slice0.lean ====
section
/-! SUPPORT. Tests: well-formedness, decoding, one small step or two per operation, and for every obligation with
hypotheses a state and operands that meet them. Expected values are those of 95_test_vectors, named in each docstring,
or read from the rule named. -/

namespace Sys2Proof.Tests

open Sys2Proof.Machine

/-! ## Helpers -/

/-- An instance of capacity `n`, every parameter a number. -/
def smallConfig (n : Nat) : Config := ⟨n, .little, 1, false, true⟩

/-- Right after INIT, capacity `n`. -/
def stopped (n : Nat) : State := { State.resetWith (smallConfig n) with lstate := .stopped }

/-- Right after START, capacity `n`. -/
def started (n : Nat) : State := { stopped n with lstate := .ready, link := true }

/-- After a fault. -/
def halted : State := { stopped 2 with lstate := .halted, fault := 0x14 }

/-- The state with the port of `who` being served, its turn long enough for every operation. -/
def served (who : Agent) (s : State) : State := { s with turn := ⟨who, 6⟩ }

/-- The state whose next move is `m`. -/
def moves (m : Move) (s : State) : State := { s with schedule := [m] }

/-- Frame `f<i>` of 95_test_vectors section 4. -/
def numbered (i : Ident) : InternalFrame := ⟨false, false, false, i, 0, #v[0, 0, 0, 0, 0, 0, 0, 0]⟩

/-- Frame E6 of 95_test_vectors section 2. -/
def frameE6 : InternalFrame := ⟨false, false, true, 0x1ABCDE, 2, #v[0xAA, 0xBB, 0, 0, 0, 0, 0, 0]⟩

/-- Frame E1. -/
def frameE1 : InternalFrame := ⟨false, false, false, 0x123, 3, #v[1, 2, 3, 0, 0, 0, 0, 0]⟩

/-- The bytes of `w1` of 95_test_vectors section 5. -/
def wire1 : WireBytes := #v[1, 1, 0, 0, 1, 0, 0, 0, 1, 0, 0, 0, 0, 0, 0, 0]

/-- A ring of capacity 2 with one published frame, `f1` in slot 0. -/
def onePublished (s : State) : State :=
  { s with slots := [⟨some (numbered 1), some 13⟩, ⟨none, none⟩], count := 1, wr := 1 }

/-- A full ring of capacity 2. -/
def bothPublished (s : State) : State :=
  { s with slots := [⟨some (numbered 1), some 13⟩, ⟨some (numbered 2), some 13⟩], count := 2, wr := 0 }

/-- A wire side with one frame waiting and answers given in advance. -/
def waiting (p : Ack) (r : ReadAnswer) (s : State) : State :=
  { s with env := { Env.quiet with wireRx := [wire1], pollReads := [p], reads := [r] } }

/-- A TRANSMIT at its step 2 that waits while another thread issues STOP, and goes on afterwards. -/
def stopInsideTransmit (n : Nat) : State :=
  { started 2 with
    portA := ⟨[{ op := 0x02 }], .transmitWrite wire1⟩
    env := { Env.quiet with closes := [.ok] }
    schedule := [.thread 1, .agent .a 0, .thread 0, .agent .a n] }

/-- A value of the next state, if there is one. -/
def next {α : Type} (r : Result) (g : State → α) : Option α :=
  match r with
  | .next s => some (g s)
  | .fault _ => none
  | .refused _ => none

/-- The newest event. -/
def newest (s : State) : Option Event := s.history.head?

/-! ## Well-formedness: one ill-formed term a check -/

theorem test_wf_slot : Instr.wellFormed 4 (.slotRead 3) = true ∧ Instr.wellFormed 4 (.slotRead 4) = false := by decide
theorem test_wf_slot_write : Instr.wellFormed 2 (.slotWrite 2 (numbered 1)) = false := by decide
theorem test_wf_size : Instr.wellFormed 4 (.publish 0 13) = true ∧ Instr.wellFormed 4 (.publish 0 0) = false ∧
    Instr.wellFormed 4 (.publish 0 14) = false ∧ Instr.wellFormed 4 (.publish 4 1) = false := by decide
theorem test_wf_mbox : Instr.wellFormed 4 (.receive 0) = true ∧ Instr.wellFormed 4 (.receive 1) = false ∧
    Instr.wellFormed 4 (.abort 2) = false := by decide
theorem test_wf_frame : Instr.wellFormed 4 (.encode frameE1) = true ∧
    Instr.wellFormed 4 (.encode { frameE1 with len := 9 }) = false ∧
    Instr.wellFormed 4 (.transmit 0 { frameE1 with len := 200 }) = false := by decide
theorem test_wf_name : Instr.wellFormed 4 (.start 0x00000000000000747365742D6E616376) = true ∧
    Instr.wellFormed 4 (.start 0) = false ∧ Instr.wellFormed 4 (.start 0x00780078) = false := by decide

/-! ## Decoding: one word per operation, from R100 and the encodings of 95_test_vectors section 8 -/

theorem test_word_init : decodeTableWord 8 0x00 = some .init := by decide
/-- P1 line 2. -/
theorem test_word_start : decodeTableWord 136 0x00000000000000747365742D6E61637601 =
    some (.start 0x00000000000000747365742D6E616376) := by decide
theorem test_word_stop : decodeTableWord 8 0x02 = some .stop := by decide
theorem test_word_sleep : decodeTableWord 8 0x03 = some .sleep := by decide
theorem test_word_wakeup : decodeTableWord 8 0x04 = some .wakeup := by decide
/-- Row E5 of section 2: every flag, and an identifier of 29 bits. -/
theorem test_word_encode : decodeTableWord 112 0x00000000000000FF0191A2B3C710 =
    some (.encode ⟨true, true, true, 0x12345678, 1, #v[0xFF, 0, 0, 0, 0, 0, 0, 0]⟩) := by decide
/-- Row E6's 128-bit operand. -/
theorem test_word_decode : decodeTableWord 136 0x000000000000BBAA00000002801ABCDE11 =
    some (.decode #v[0xDE, 0xBC, 0x1A, 0x80, 2, 0, 0, 0, 0xAA, 0xBB, 0, 0, 0, 0, 0, 0]) := by decide
theorem test_word_claim_empty : decodeTableWord 8 0x20 = some .claimEmpty := by decide
/-- P4 line 4, with slot 3. -/
theorem test_word_slot_write : decodeTableWord 120 0x00000000000000000000003FFA0321 =
    some (.slotWrite 3 ⟨false, true, false, 0x7FF, 0, #v[0, 0, 0, 0, 0, 0, 0, 0]⟩) := by decide
/-- P4 line 5, with slot 3. -/
theorem test_word_publish : decodeTableWord 24 0x0D0322 = some (.publish 3 13) := by decide
theorem test_word_claim_full : decodeTableWord 40 0x0000000523 = some (.claimFull 5) := by decide
theorem test_word_slot_read : decodeTableWord 16 0x0224 = some (.slotRead 2) := by decide
theorem test_word_release : decodeTableWord 16 0x0225 = some (.release 2) := by decide
theorem test_word_intake : decodeTableWord 8 0x30 = some .intake := by decide
theorem test_word_receive : decodeTableWord 16 0x0131 = some (.receive 1) := by decide
/-- P3 line 15. -/
theorem test_word_transmit : decodeTableWord 120 0x000000000000BBAA0200D5E6F40032 =
    some (.transmit 0 frameE6) := by decide
theorem test_word_is_rx_nonempty : decodeTableWord 16 0x0033 = some (.isRxNonempty 0) := by decide
theorem test_word_is_tx_ready : decodeTableWord 16 0x0034 = some (.isTxReady 0) := by decide
theorem test_word_abort : decodeTableWord 16 0x0235 = some (.abort 2) := by decide
/-- L6.27: the reserved codes it names. -/
theorem test_words_reserved : ∀ w ∈ [0x05, 0x12, 0x26, 0x36, 0x40, 0xFF], decodeTableWord 8 w = none := by decide

/-! ## The codec: the vectors of sections 2 and 3 -/

/-- Row E1. -/
theorem test_encode_little : encodeBytes .little frameE1 =
    #v[0x23, 1, 0, 0, 3, 0, 0, 0, 1, 2, 3, 0, 0, 0, 0, 0] := by decide
/-- Row E5, big order. -/
theorem test_encode_big :
    encodeBytes .big ⟨true, true, true, 0x12345678, 1, #v[0xFF, 0, 0, 0, 0, 0, 0, 0]⟩ =
      #v[0xF2, 0x34, 0x56, 0x78, 1, 0, 0, 0, 0xFF, 0, 0, 0, 0, 0, 0, 0] := by decide
/-- Row D4: a length of 200 is carried. -/
theorem test_decode_little :
    decodeBytes .little #v[0x23, 1, 0, 0, 0xC8, 0, 0, 0, 0x10, 0x20, 0x30, 0x40, 0x50, 0x60, 0x70, 0x80] =
      ⟨false, false, false, 0x123, 200, #v[0x10, 0x20, 0x30, 0x40, 0x50, 0x60, 0x70, 0x80]⟩ := by decide
/-- Row D2, big order: the identifier is another one. -/
theorem test_decode_big : decodeBytes .big #v[0x23, 1, 0, 0x80, 3, 0, 0, 0, 1, 2, 3, 0, 0, 0, 0, 0] =
    ⟨true, false, false, 0x03010080, 3, #v[1, 2, 3, 0, 0, 0, 0, 0]⟩ := by decide
/-- Row E3's 104-bit packing. -/
theorem test_pack_frame : packFrame ⟨false, true, false, 0x7FF, 0, #v[0, 0, 0, 0, 0, 0, 0, 0]⟩ = 0x3FFA := by decide

/-! ## Single steps -/

/-- L6.1. -/
theorem test_init_twice : next (exec .init (served .a (stopped 2))) (fun t => (t.fault, t.lstate)) =
    some (0x14, .halted) := by decide
/-- R220, on an instance whose registers hold something. -/
theorem test_init_sets : next (exec .init (served .a { onePublished (stopped 2) with
      lstate := .uninit, rd := 1, cwait := true }))
    (fun t => (t.lstate, t.wr + t.rd + t.count, t.cwait, t.frameAt 0)) = some (.stopped, 0, false, none) := by decide
/-- L6.10. -/
theorem test_start_bind_failure : next (exec (.start 0x78) (served .a { stopped 2 with
      env := { Env.quiet with opens := [.bindFailed] } }))
    (fun t => (t.fault, t.cfg, t.link)) = some (0x03, some 0x78, false) := by decide
/-- L6.8, R32: the first START hands its name to the environment; one in READY hands over nothing and keeps CFG. -/
theorem test_start_passes_name :
    next (exec (.start 0x78) (served .a { stopped 2 with env := { Env.quiet with opens := [.ok []] } }))
      (fun t => t.history) =
        some [.response .a .ok, .fresh [], .opening (some 0x78), .request .a (.start 0x78)] ∧
    next (exec (.start 0x79) (served .a { started 2 with cfg := some 0x78 })) (fun t => (t.cfg, t.history)) =
      some (some 0x78, [.response .a .ok, .request .a (.start 0x79)]) := by decide
/-- L6.9, `P_RESTART_FLUSH` true: the cursors go to zero and the slots stay. -/
theorem test_start_flush : next (exec (.start 0x78) (served .a { onePublished (stopped 2) with
      params := ⟨2, .little, 1, true, true⟩, env := { Env.quiet with opens := [.ok []] } }))
    (fun t => (t.lstate, t.count, t.wr, t.frameAt 0)) = some (.ready, 0, 0, some (numbered 1)) := by decide
/-- L6.12. -/
theorem test_stop_close_failure : next (exec .stop (served .a { started 2 with
      env := { Env.quiet with closes := [.failed] } }))
    (fun t => (t.fault, t.link, t.lstate)) = some (0x04, true, .halted) := by decide
/-- L6.13. -/
theorem test_stop_claimed : next (exec .stop (served .a { started 2 with pclaim := true }))
    (fun t => (t.fault, t.pclaim, t.link)) = some (0x15, true, true) := by decide
/-- L5.14. -/
theorem test_sleep : next (exec .sleep (served .a (stopped 2))) newest = some (some (.response .a .ok)) := by decide
/-- L5.14. -/
theorem test_wakeup : next (exec .wakeup (served .a (started 2))) newest = some (some (.response .a .ok)) := by decide
/-- L6.4: legal before INIT. -/
theorem test_encode_before_init : next (exec (.encode frameE1) (served .a (State.resetWith (smallConfig 2)))) newest =
    some (some (.response .a (.wire #v[0x23, 1, 0, 0, 3, 0, 0, 0, 1, 2, 3, 0, 0, 0, 0, 0]))) := by decide
/-- R133: DECODE is P's as well. -/
theorem test_decode_on_p : next (exec (.decode wire1) (served .p (stopped 2))) newest =
    some (some (.response .p (.frame ⟨false, false, false, 0x101, 1, #v[1, 0, 0, 0, 0, 0, 0, 0]⟩))) := by decide
/-- L4.3: a slot being drained still counts. -/
theorem test_claim_empty_full : next (exec .claimEmpty (served .p { bothPublished (stopped 2) with cclaim := true }))
    (fun t => (newest t, t.pclaim)) = some (some (.response .p .full), false) := by decide
/-- L6.15. -/
theorem test_claim_empty_twice : next (exec .claimEmpty (served .p { stopped 2 with pclaim := true }))
    (fun t => (t.fault, t.pclaim)) = some (0x20, true) := by decide
/-- L6.17. -/
theorem test_slot_write_other : next (exec (.slotWrite 1 (numbered 1)) (served .p { stopped 2 with pclaim := true }))
    (fun t => (t.fault, t.frameAt 1)) = some (0x21, none) := by decide
/-- L4.4. -/
theorem test_slot_write_second :
    next (exec (.slotWrite 1 (numbered 2)) (served .p { onePublished (stopped 2) with pclaim := true }))
      (fun t => (t.frameAt 0, t.frameAt 1, t.count)) = some (some (numbered 1), some (numbered 2), 1) := by decide
/-- L4.3: WR wraps; L6.20 and L6.21 give the order of the checks. -/
theorem test_publish_wraps : next (exec (.publish 1 1) (served .p { onePublished (stopped 2) with pclaim := true }))
    (fun t => (t.wr, t.count, t.sizeAt 1, t.history.take 2)) =
      some (0, 2, some 1, [.response .p .ok, .wake]) := by decide
theorem test_publish_order : next (exec (.publish 2 0) (served .p { stopped 2 with pclaim := true }))
    (fun t => t.fault) = some 0x23 := by decide
/-- L4.6. -/
theorem test_claim_full_holds : next (exec (.claimFull 5) (served .c (stopped 2)))
    (fun t => (newest t, t.cwait, t.ctmo)) = some (some .hold, true, 5) := by decide
/-- L4.10. -/
theorem test_claim_full_size :
    next (exec (.claimFull 0) (served .c { onePublished (stopped 2) with
        slots := [⟨some (numbered 1), some 1⟩, ⟨none, none⟩] }))
      (fun t => (newest t, t.cclaim)) = some (some (.response .c (.slotSize 0 (some 1))), true) := by decide
/-- P5 line 5. -/
theorem test_slot_read_unwritten :
    next (exec (.slotRead 0) (served .c { onePublished (stopped 2) with
        cclaim := true, slots := [⟨none, some 13⟩, ⟨none, none⟩] }))
      (fun t => (t.fault, t.lstate, t.cclaim)) = some (0x29, .halted, true) := by decide
/-- L4.1. -/
theorem test_slot_read : next (exec (.slotRead 0) (served .c { onePublished (stopped 2) with cclaim := true })) newest =
    some (some (.response .c (.frame (numbered 1)))) := by decide
/-- L4.1: the slot keeps its frame. -/
theorem test_release : next (exec (.release 0) (served .c { onePublished (stopped 2) with cclaim := true }))
    (fun t => (t.count, t.rd, t.cclaim, t.frameAt 0)) = some (0, 1, false, some (numbered 1)) := by decide
/-- L6.23. -/
theorem test_release_wrong : next (exec (.release 1) (served .c { onePublished (stopped 2) with cclaim := true }))
    (fun t => (t.fault, t.count)) = some (0x28, 1) := by decide
/-- L5.1. -/
theorem test_intake : next (exec .intake (served .p (waiting .ok .ok (started 2))))
    (fun t => (t.frameAt 0, t.count, t.env.wireRx, t.history.take 3)) =
      some (some ⟨false, false, false, 0x101, 1, #v[1, 0, 0, 0, 0, 0, 0, 0]⟩, 1, [],
        [.response .p (.bool true), .rxEvent, .wake]) := by decide
/-- L5.4. -/
theorem test_intake_drops : next (exec .intake (served .p (waiting .ok .ok (bothPublished (started 2)))))
    (fun t => (newest t, t.count, t.env.wireRx, t.pclaim)) =
      some (some (.response .p (.bool true)), 2, [], false) := by decide
/-- P1 line 5. -/
theorem test_receive : next (exec (.receive 0) (served .c (onePublished (started 2))))
    (fun t => (newest t, t.count, t.rd, t.cclaim)) =
      some (some (.response .c (.frame (numbered 1))), 0, 1, false) := by decide
/-- L6.31: the lifecycle check comes before the mailbox check. -/
theorem test_receive_order : next (exec (.receive 1) (served .c (stopped 2)))
    (fun t => (t.fault, t.refusedMet)) = some (0x11, false) := by decide
/-- L5.11. -/
theorem test_transmit : next (exec (.transmit 0 frameE6) (served .a { started 2 with
      env := { Env.quiet with writes := [.ok] } })) (fun t => (newest t, t.env.wireTx)) =
    some (some (.response .a .ok),
      [#v[0xDE, 0xBC, 0x1A, 0x80, 2, 0, 0, 0, 0xAA, 0xBB, 0, 0, 0, 0, 0, 0]]) := by decide
/-- L5.12. -/
theorem test_transmit_failure : next (exec (.transmit 0 frameE1) (served .a { started 2 with
      env := { Env.quiet with writes := [.failed] } })) (fun t => (t.fault, t.env.wireTx)) = some (0x06, []) := by
  decide
/-- L5.10. -/
theorem test_is_rx_nonempty : next (exec (.isRxNonempty 0) (served .c (bothPublished (started 2)))) newest =
    some (some (.response .c (.bool true))) := by decide
/-- L6.29. -/
theorem test_is_rx_nonempty_refused : next (exec (.isRxNonempty 1) (served .c (started 2)))
    (fun t => (t.fault, t.lstate, t.refusedMet)) = some (0, .ready, true) := by decide
/-- L5.13. -/
theorem test_is_tx_ready : next (exec (.isTxReady 0) (served .a { started 2 with
      env := { Env.quiet with pollWrites := [.no] } })) newest = some (some (.response .a (.bool false))) := by decide
/-- L6.32. -/
theorem test_abort : next (exec (.abort 2) (served .a (stopped 2))) (fun t => t.fault) = some 0x10 ∧
    next (exec (.abort 0) (served .a (State.resetWith (smallConfig 2)))) newest = some (some (.response .a .ok)) := by
  decide
/-- L6.33: an operation of P on port C. -/
theorem test_wrong_port : next (exec .claimEmpty (served .c (stopped 2)))
    (fun t => (t.refusedMet, t.fault, t.pclaim)) = some (true, 0, false) := by decide
/-- L6.36: after a fault everything is refused and the first code stays. -/
theorem test_after_fault : next (exec .claimEmpty (served .p halted)) (fun t => (t.refusedMet, t.fault)) =
    some (true, 0x14) := by decide
/-- L6.34: a reserved code on port C. -/
theorem test_reserved_on_c : next (step (moves (.agent .c 0) { stopped 2 with portC := ⟨[{ op := 0x05 }], .idle⟩ }))
    (fun t => (t.fault, t.refusedMet)) = some (0x30, false) := by decide
/-- P4 line 6. -/
theorem test_completion : next (step (moves .complete { onePublished (stopped 2) with
      cwait := true, ctmo := infiniteTimeout })) (fun t => (newest t, t.cwait, t.cclaim)) =
    some (some (.response .c (.slotSize 0 (some 13))), false, true) := by decide
/-- L4.6, and L4.7: with an infinite timeout there is no expiry. -/
theorem test_expiry : next (step (moves .expire { stopped 2 with cwait := true, ctmo := 5 }))
      (fun t => (newest t, t.cwait)) = some (some (.response .c .empty), false) ∧
    next (step (moves .expire { stopped 2 with cwait := true, ctmo := infiniteTimeout })) (fun t => t.cwait) =
      some true := by decide
/-- L5.15: a turn of one step leaves an INTAKE between two of its steps. -/
theorem test_intake_interleaves : next (step (moves (.agent .p 1) { waiting .ok .ok (started 2) with
      portP := ⟨[{ op := 0x30 }], .idle⟩ })) (fun t => (t.portP.stage, t.env.wireRx.length)) =
    some (.intakeRead, 1) := by decide
/-- R287: a STOP of another application thread between steps 0 and 2 of a TRANSMIT; the later step is refused. -/
theorem test_stop_inside_transmit :
    next (step (stopInsideTransmit 0)) (fun t => (t.portA.stage, t.transmits)) =
      some (.idle, [.transmitWrite wire1]) ∧
    next (andThen (andThen (andThen (step (stopInsideTransmit 0)) step) step) step)
      (fun t => (t.refusedMet, t.fault, t.lstate, t.env.wireTx)) = some (true, 0, .stopped, []) := by decide
/-- R67: two TRANSMITs of application threads go on independently of one another. -/
theorem test_two_transmits :
    next (step (moves (.thread 0) { started 2 with
        portA := ⟨[], .transmitEncode frameE1⟩, transmits := [.transmitReply, .transmitWrite wire1] }))
      (fun t => (t.portA.stage, t.transmits)) =
        some (.transmitReply, [.transmitWrite wire1, .transmitEncode frameE1]) := by decide
/-- R191: step 5 of an INTAKE is one atomic step. -/
theorem test_intake_stores_at_once : next (step (moves (.agent .p 0) { stopped 2 with
      pclaim := true, portP := ⟨[], .intakeStore 0 (numbered 1)⟩ }))
    (fun t => (t.portP.stage, t.frameAt 0, t.count, t.history)) =
      some (.intakeReport, some (numbered 1), 1, [.rxEvent, .wake]) := by decide
/-- A word placed at reset runs: INIT (R220). -/
theorem test_placed_word : next (step ((State.resetWith (smallConfig 2)).withFetchWord 8 0x00))
    (fun t => (newest t, t.lstate)) = some (some (.response .a .ok), .stopped) := by decide

/-! ## Witnesses: for every obligation with hypotheses, states and operands that meet them, clause by clause -/

/-- SLOT_READ with an ignored size port. -/
theorem witness_decodedRequestsEncodeBack : decode { op := 0x24, slot := 2, size := 9 } = .ok (.slotRead 2) := by
  decide
theorem witness_reservedCodesRejected :
    (0x35 : Byte).toNat ∈ [0x00, 0x01, 0x02, 0x03, 0x04, 0x10, 0x11, 0x20, 0x21, 0x22, 0x23, 0x24, 0x25, 0x30, 0x31,
        0x32, 0x33, 0x34, 0x35] ∧
      (0x36 : Byte).toNat ∉ [0x00, 0x01, 0x02, 0x03, 0x04, 0x10, 0x11, 0x20, 0x21, 0x22, 0x23, 0x24, 0x25, 0x30, 0x31,
        0x32, 0x33, 0x34, 0x35] := by decide
/-- Bits 28, 29, 30 and 31, on either side of every clause. -/
theorem witness_flagsIndependent : (28 < 32 ∧ 28 ≠ 29 ∧ 28 ≠ 30 ∧ 28 ≠ 31) ∧ (29 < 32 ∧ 29 ≠ 30 ∧ 29 ≤ 29) ∧
    (30 < 32 ∧ 30 ≠ 29 ∧ 29 ≤ 30) ∧ (31 < 32 ∧ 31 ≠ 29 ∧ 29 ≤ 31) := by decide
/-- Before INIT, on either port. -/
theorem witness_codecAnswers : (State.resetWith (smallConfig 2)).lstate ≠ .halted ∧
    (served .a (State.resetWith (smallConfig 2))).turn.agent = .a ∧
    (served .p (State.resetWith (smallConfig 2))).turn.agent = .p := by decide
theorem witness_initSetsUp : (served .a (State.resetWith (smallConfig 2))).turn.agent = .a ∧
    (served .a (State.resetWith (smallConfig 2))).lstate = .uninit ∧ (served .a (stopped 2)).lstate = .stopped ∧
    (served .a (started 2)).lstate = .ready ∧ (served .a halted).lstate = .halted := by decide
/-- One answer of each kind, in STOPPED without a claim. -/
theorem witness_startOpensLink : ∀ x ∈ [OpenAnswer.ok [wire1], .openFailed, .resolveFailed, .bindFailed],
    let s := served .a { stopped 2 with env := { Env.quiet with opens := [x] } }
    s.turn.agent = .a ∧ drawFrom s.env.opens (Config.freeOpen (some 0x78)) s.draws = (x, [], 0) ∧ s.lstate = .stopped ∧
      s.pclaim = false ∧ s.cclaim = false ∧ s.cwait = false := by decide
/-- The other clauses of the same: UNINIT, READY, and each of the three registers that make START fault. -/
theorem witness_startOpensLink_other : ∀ s ∈ [State.resetWith (smallConfig 2), started 2, { stopped 2 with pclaim := true },
      { onePublished (stopped 2) with cclaim := true }, { stopped 2 with cwait := true, ctmo := 5 }],
    let s := served .a { s with env := { Env.quiet with opens := [.openFailed] } }
    s.turn.agent = .a ∧ drawFrom s.env.opens (Config.freeOpen (some 0x78)) s.draws = (.openFailed, [], 0) ∧
      (s.lstate = .uninit ∨ s.lstate = .ready ∨ (s.lstate = .stopped ∧
        (s.pclaim = true ∨ s.cclaim = true ∨ s.cwait = true))) := by decide
/-- Both answers in READY, with the link open and, in a state no run reaches, closed. -/
theorem witness_stopClosesLink : ∀ x ∈ [Ack.ok, .failed], ∀ b ∈ [true, false],
    let s := served .a { started 2 with link := b, env := { Env.quiet with closes := [x] } }
    s.turn.agent = .a ∧ drawFrom s.env.closes Config.freeClose s.draws = (x, [], 0) ∧ s.lstate = .ready ∧
      s.pclaim = false ∧ s.cclaim = false ∧ s.cwait = false ∧ s.link = b := by decide
theorem witness_stopClosesLink_other : ∀ s ∈ [State.resetWith (smallConfig 2), stopped 2, { started 2 with pclaim := true },
      { onePublished (started 2) with cclaim := true }, { started 2 with cwait := true, ctmo := 5 }],
    let s := served .a { s with env := { Env.quiet with closes := [.ok] } }
    s.turn.agent = .a ∧ drawFrom s.env.closes Config.freeClose s.draws = (.ok, [], 0) ∧
      (s.lstate = .uninit ∨ s.lstate = .stopped ∨ (s.lstate = .ready ∧
        (s.pclaim = true ∨ s.cclaim = true ∨ s.cwait = true))) := by decide
theorem witness_noOpHooksAnswerOk : (served .a (State.resetWith (smallConfig 1))).turn.agent = .a ∧
    (served .a (State.resetWith (smallConfig 1))).lstate ≠ .halted := by decide
/-- An operation and a state for each of the seven clauses, in the order of the statement. -/
theorem witness_lifecycleCheckTable : (∀ x ∈ [(Instr.claimEmpty, served .p halted),
      (.start 0x78, served .a (State.resetWith (smallConfig 2))), (.receive 0, served .c (stopped 2)),
      (.intake, served .p (State.resetWith (smallConfig 2))), (.stop, served .a (stopped 2)),
      (.start 0x78, served .a (started 2)), (.init, served .a (started 2))],
      mayIssue x.2.turn.agent x.1 = true) ∧
    (served .p halted).lstate = .halted ∧ (served .a (State.resetWith (smallConfig 2))).lstate = .uninit ∧
    (served .c (stopped 2)).lstate = .stopped ∧ (served .a (started 2)).lstate = .ready ∧
    needsInitialised (.start 0x78) = true ∧ needsReady (.receive 0) = true := by decide
/-- A full ring, a ring with one place, and an open claim. -/
theorem witness_claimEmptyGivesWriteSlot : (∀ s ∈ [bothPublished (stopped 2), onePublished (started 2)],
      (served .p s).turn.agent = .p ∧ ringUsable (served .p s) = true ∧ s.pclaim = false) ∧
    (bothPublished (stopped 2)).count = (bothPublished (stopped 2)).params.n ∧
    (onePublished (started 2)).count ≠ (onePublished (started 2)).params.n ∧
    ringUsable { stopped 2 with pclaim := true } = true := by decide
/-- The last slot of the array; and no claim, and another slot. -/
theorem witness_slotWriteStoresFrame :
    let s := served .p { onePublished (stopped 2) with pclaim := true }
    s.turn.agent = .p ∧ ringUsable s = true ∧ s.pclaim = true ∧ (1 : Byte).toNat = s.wr ∧
      s.slots[s.wr]? = some ⟨none, none⟩ ∧ (0 : Byte).toNat ≠ s.wr ∧ (served .p (stopped 2)).pclaim = false := by decide
/-- Sizes 0, 1, 13 and 14. -/
theorem witness_publishHandsOver :
    let s := served .p { onePublished (stopped 2) with pclaim := true }
    s.turn.agent = .p ∧ ringUsable s = true ∧ s.pclaim = true ∧ (1 : Byte).toNat = s.wr ∧ (0 : Byte).toNat ≠ s.wr ∧
      s.slots[s.wr]? = some ⟨none, none⟩ ∧ (0 : Byte).toNat = 0 ∧ 13 < (14 : Byte).toNat ∧
      (1 ≤ (1 : Byte).toNat ∧ (1 : Byte).toNat ≤ 13) ∧ (1 ≤ (13 : Byte).toNat ∧ (13 : Byte).toNat ≤ 13) ∧
      (served .p (stopped 2)).pclaim = false := by decide
/-- A published slot, an empty ring with the timeouts 0 and 1, and an open claim. -/
theorem witness_claimFullGivesReadSlot : (∀ s ∈ [onePublished (stopped 2), stopped 2],
      (served .c s).turn.agent = .c ∧ ringUsable (served .c s) = true ∧ s.cclaim = false) ∧
    0 < (onePublished (stopped 2)).count ∧
    (onePublished (stopped 2)).slots[(onePublished (stopped 2)).rd]? = some ⟨some (numbered 1), some 13⟩ ∧
    (stopped 2).count = 0 ∧ (1 : Word32) ≠ 0 ∧
    ringUsable { onePublished (stopped 2) with cclaim := true } = true := by decide
theorem witness_slotReadReturnsFrame : (∀ c ∈ [(⟨some (numbered 1), some 13⟩ : Slot), ⟨none, some 13⟩],
      let s := served .c { onePublished (stopped 2) with cclaim := true, slots := [c, ⟨none, none⟩] }
      s.turn.agent = .c ∧ ringUsable s = true ∧ s.cclaim = true ∧ (0 : Byte).toNat = s.rd ∧ (1 : Byte).toNat ≠ s.rd ∧
        s.slots[s.rd]? = some c) ∧
    (served .c (stopped 2)).cclaim = false := by decide
theorem witness_releaseFreesSlot :
    let s := served .c { bothPublished (stopped 2) with rd := 1, wr := 1, cclaim := true }
    s.turn.agent = .c ∧ ringUsable s = true ∧ s.cclaim = true ∧ (1 : Byte).toNat = s.rd ∧ (0 : Byte).toNat ≠ s.rd ∧
      (served .c (stopped 2)).cclaim = false := by decide
/-- A hold that may complete, one that may expire, and the states in which neither is enabled. -/
theorem witness_heldClaimEnds :
    (let s := moves .complete { onePublished (stopped 2) with cwait := true, ctmo := 1 };
      s.schedule = [.complete] ∧ ringUsable s = true ∧ s.cwait = true ∧ 0 < s.count ∧ s.cclaim = false ∧
        s.slots[s.rd]? = some ⟨some (numbered 1), some 13⟩) ∧
    (let s := moves .expire { stopped 2 with cwait := true, ctmo := 0xFFFFFFFE };
      s.schedule = [.expire] ∧ ringUsable s = true ∧ s.cwait = true ∧ s.ctmo ≠ 0xFFFFFFFF) ∧
    (moves .expire { stopped 2 with ctmo := 0xFFFFFFFF }).ctmo = 0xFFFFFFFF ∧ ringUsable halted = false ∧
    (stopped 2).cwait = false ∧ (stopped 2).count = 0 := by decide
/-- Step 5 of an INTAKE, with the claim held on the last slot. -/
theorem witness_intakeMovesOneFrame_store :
    let s := moves (.agent .p 0) { onePublished (started 2) with
      pclaim := true, portP := ⟨[], .intakeStore 1 (numbered 2)⟩ }
    s.schedule = [.agent .p 0] ∧ s.portP.stage = .intakeStore 1 (numbered 2) ∧ s.lstate ≠ .halted ∧
      s.pclaim = true ∧ (1 : Byte).toNat = s.wr ∧ s.slots[s.wr]? = some ⟨none, none⟩ := by decide
theorem witness_intakeMovesOneFrame :
    let s := served .p (waiting .ok .ok (onePublished (started 2)))
    s.turn.agent = .p ∧ 6 ≤ s.turn.steps ∧ s.lstate = .ready ∧ s.link = true ∧ s.env.wireRx = [wire1] ∧
      drawFrom s.env.pollReads Config.freePollReadable s.draws = (.ok, [], 0) ∧
      drawFrom s.env.reads Config.freeRead 0 = (.ok, [], 0) ∧ s.pclaim = false ∧ s.count ≠ s.params.n ∧ s.wr < 256 ∧
      s.slots[s.wr]? = some ⟨none, none⟩ := by decide
theorem witness_intakeDropsWhenFull :
    let s := served .p (waiting .ok .ok (bothPublished (started 2)))
    s.turn.agent = .p ∧ 6 ≤ s.turn.steps ∧ s.lstate = .ready ∧ s.link = true ∧ s.env.wireRx = [wire1] ∧
      drawFrom s.env.pollReads Config.freePollReadable s.draws = (.ok, [], 0) ∧
      drawFrom s.env.reads Config.freeRead 0 = (.ok, [], 0) ∧ s.pclaim = false ∧ s.count = s.params.n := by decide
/-- Every answer of the two questions, with a frame waiting and a claim open. -/
theorem witness_intakeOtherEnds : (∀ x ∈ [Ack.ok, .failed], ∀ y ∈ [ReadAnswer.ok, .failed true, .failed false],
      let s := served .p (waiting x y { started 2 with pclaim := true })
      s.turn.agent = .p ∧ 6 ≤ s.turn.steps ∧ s.lstate = .ready ∧ s.link = true ∧ s.env.wireRx = [wire1] ∧
        drawFrom s.env.pollReads Config.freePollReadable s.draws = (x, [], 0) ∧
        drawFrom s.env.reads Config.freeRead 0 = (y, [], 0) ∧ s.pclaim = true) ∧
    (let s := served .p { started 2 with env := { Env.quiet with pollReads := [.ok] } };
      s.env.wireRx = [] ∧ drawFrom s.env.pollReads Config.freePollReadable s.draws = (.ok, [], 0)) := by decide
theorem witness_receiveTakesOldestFrame : (∀ c ∈ [(⟨some (numbered 1), some 13⟩ : Slot), ⟨none, some 13⟩],
      let s := served .c { onePublished (started 2) with slots := [c, ⟨none, none⟩] }
      s.turn.agent = .c ∧ 4 ≤ s.turn.steps ∧ s.lstate = .ready ∧ s.cclaim = false ∧ 0 < s.count ∧ s.rd < 256 ∧
        s.slots[s.rd]? = some c) ∧
    (served .c (started 2)).count = 0 ∧ (served .c { onePublished (started 2) with cclaim := true }).cclaim = true := by
  decide
theorem witness_transmitHandsToWire : ∀ x ∈ [Ack.ok, .failed],
    let s := served .a { started 2 with env := { Env.quiet with writes := [x] } }
    s.turn.agent = .a ∧ 3 ≤ s.turn.steps ∧ s.lstate = .ready ∧ s.link = true ∧
      drawFrom s.env.writes (Config.freeWrite (encodeBytes .little frameE6)) s.draws = (x, [], 0) := by decide
theorem witness_rxNonemptyReportsCount : (served .c (started 2)).turn.agent = .c ∧
    (served .c (started 2)).lstate = .ready := by decide
theorem witness_txReadyReportsPoll : ∀ x ∈ [PollAnswer.yes, .no, .failed],
    let s := served .a { started 2 with env := { Env.quiet with pollWrites := [x] } }
    s.turn.agent = .a ∧ s.lstate = .ready ∧ s.link = true ∧
      drawFrom s.env.pollWrites Config.freePollWritable s.draws = (x, [], 0) := by decide
/-- Mailboxes 1, 2 and 255, in READY and, for ABORT, before INIT. -/
theorem witness_mailboxChecked : ∀ m ∈ [(1 : Byte), 2, 255],
    mayIssue (served .c (started 2)).turn.agent (.receive m) = true ∧ mailboxOf (.receive m) = some m ∧
      (served .c (started 2)).lstate = .ready ∧
      mayIssue (served .a (State.resetWith (smallConfig 2))).turn.agent (.abort m) = true ∧
      mailboxOf (.abort m) = some m ∧ (served .a (State.resetWith (smallConfig 2))).lstate ≠ .halted ∧
      (m = 1 ∨ 2 ≤ m.toNat) := by decide
theorem witness_wrongPortRefused : mayIssue (served .c (stopped 2)).turn.agent .claimEmpty = false := by decide
/-- On port C, not held, and in HALTED. -/
theorem witness_reservedCodeFaults : ∀ s ∈ [stopped 2, halted],
    let s := moves (.agent .c 0) { s with portC := ⟨[{ op := 0x05 }], .idle⟩ }
    s.schedule = [.agent .c 0] ∧ s.port .c = ⟨[{ op := 0x05 }], .idle⟩ ∧ ¬ (Agent.c = .c ∧ consumerHeld s = true) ∧
      decode { op := 0x05 } = .error (.reservedOp 0x05) := by decide
/-- A second CLAIM_EMPTY, which faults. -/
theorem witness_faultsArePrecise :
    let s := served .p { stopped 2 with pclaim := true }
    ∃ t, exec .claimEmpty s = .next t ∧ s.lstate ≠ .halted ∧ t.lstate = .halted ∧ Instr.claimEmpty ≠ .intake ∧
      (∀ m, Instr.claimEmpty ≠ .receive m) ∧ (∀ m f, Instr.claimEmpty ≠ .transmit m f) :=
  ⟨_, rfl, by decide, by decide, by decide, fun _ => nofun, fun _ _ => nofun⟩
theorem witness_unlinkedQuestionsRefused : (served .a { started 2 with link := false }).link = false ∧
    (served .a { started 2 with link := false }).lstate = .ready ∧
    (served .a { started 2 with link := false }).turn.agent = .a := by decide
/-- The TRANSMIT at its write step, and at its encode step with a turn of one step more. -/
theorem witness_unlinkedQuestionsRefused_stop :
    (∀ n ∈ [0, 6], let s := stopInsideTransmit n;
      s.lstate = .ready ∧ s.link = true ∧ s.pclaim = false ∧ s.cclaim = false ∧ s.cwait = false ∧
        s.portA = ⟨[{ op := 0x02 }], .transmitWrite wire1⟩ ∧ decode { op := 0x02 } = .ok .stop ∧
        drawFrom s.env.closes Config.freeClose s.draws = (.ok, [], 0) ∧
        s.schedule = [.thread (s.transmits.length + 1), .agent .a 0, .thread s.transmits.length, .agent .a n]) ∧
    ({ stopInsideTransmit 1 with portA := ⟨[{ op := 0x02 }], .transmitEncode frameE1⟩ } : State).portA =
      ⟨[{ op := 0x02 }], .transmitEncode frameE1⟩ ∧ (1 : Nat) ≤ 1 := by decide
/-- On port C before INIT, where a CWAIT that reset left holds nothing. -/
theorem witness_stepRunsDecodedRequest :
    let s := moves (.agent .c 3) { State.resetWith (smallConfig 2) with
      cwait := true, portC := ⟨[{ op := 0x31 }, { op := 0x33 }], .idle⟩ }
    s.schedule = [.agent .c 3] ∧ s.port .c = ⟨[{ op := 0x31 }, { op := 0x33 }], .idle⟩ ∧
      ¬ (Agent.c = .c ∧ consumerHeld s = true) ∧ decode { op := 0x31 } = .ok (.receive 0) := by decide
/-- An operation in progress, a held consumer, and a quiet port. -/
theorem witness_otherTurns :
    (let s := moves (.agent .a 0) { started 2 with portA := ⟨[], .transmitReply⟩ };
      s.schedule = [.agent .a 0] ∧ (s.port .a).stage ≠ .idle) ∧
    (let s := moves (.agent .c 0) { stopped 2 with cwait := true, ctmo := 5 };
      s.schedule = [.agent .c 0] ∧ (s.port .c).stage = .idle ∧ consumerHeld s = true) ∧
    (let s := moves (.agent .p 0) (stopped 2);
      s.schedule = [.agent .p 0] ∧ s.port .p = ⟨[], .idle⟩) := by decide
/-- The two places on either side of the waiting TRANSMITs' end, with port A in use and free. -/
theorem witness_otherTurns_thread :
    let s := { started 2 with portA := ⟨[], .transmitReply⟩, transmits := [.transmitWrite wire1] }
    (moves (.thread 1) s).schedule = [.thread 1] ∧ s.portA.stage ≠ .idle ∧ s.transmits.length < 2 ∧
      1 = s.transmits.length ∧ s.transmits[0]? = some (.transmitWrite wire1) ∧
      ({ s with portA := Port.quiet } : State).portA.stage = .idle := by decide
theorem witness_placedWordRuns : decodeTableWord 8 0x30 = some .intake := by decide
theorem witness_environmentMoves :
    (moves (.inject wire1) (started 2)).schedule = [.inject wire1] ∧ (started 2).link = true ∧
      (stopped 2).link = false ∧
      (let s := moves (.lose 0) { stopped 2 with env := { Env.quiet with wireRx := [wire1] } };
        s.schedule = [.lose 0] ∧ s.link = false ∧ s.env.wireRx[0]? = some wire1 ∧ s.env.wireRx.length ≤ 1) := by decide
/-- The smallest and the largest capacity. -/
theorem witness_resetMeetsInvariant : 1 ≤ (smallConfig 1).n ∧ (smallConfig 1).n ≤ 256 ∧ 1 ≤ (smallConfig 256).n ∧
    (smallConfig 256).n ≤ 256 := by decide
/-- A ring in use by both sides meets the invariant and the ownership. -/
def bothClaimed (s : State) : State := { onePublished s with pclaim := true, cclaim := true }
/-- A RECEIVE that goes on in the middle, its claim held. -/
theorem witness_stepKeepsInvariant :
    let s := moves (.agent .c 2) { bothClaimed (started 2) with portC := ⟨[], .receiveRead 0⟩ }
    ∃ t, s.Inv ∧ s.Owned ∧ step s = .next t := ⟨_, by decide, by decide, rfl⟩
/-- An INTAKE that goes on in the middle, its claim held. -/
theorem witness_stepKeepsOwnership :
    let s := moves (.agent .p 6) { bothClaimed (started 2) with portP := ⟨[], .intakeStore 1 (numbered 2)⟩ }
    ∃ t, s.Inv ∧ s.Owned ∧ step s = .next t := ⟨_, by decide, by decide, rfl⟩
theorem witness_stepAlwaysAnswers :
    let s := moves .complete { onePublished (stopped 2) with cwait := true, ctmo := 1 }
    s.Inv ∧ s.Owned := ⟨by decide, by decide⟩
/-- A full ring of capacity 2, and one slot. -/
theorem witness_cursorsFitTheirWidths : ∀ s ∈ [bothPublished (stopped 2), stopped 1],
    s.Inv ∧ ringUsable s = true := by decide
theorem witness_slotStatesExclusive : (bothClaimed (stopped 2)).Inv ∧ ringUsable (bothClaimed (stopped 2)) = true ∧
    (bothClaimed (stopped 2)).pclaim = true ∧ (bothClaimed (stopped 2)).cclaim = true ∧
    (onePublished (stopped 2)).Inv ∧ ringUsable (onePublished (stopped 2)) = true ∧
    0 < (onePublished (stopped 2)).count ∧ (onePublished (stopped 2)).cclaim = false :=
  ⟨by decide, by decide, by decide, by decide, by decide, by decide, by decide, by decide⟩
/-- Each of the four handoffs, while the other side holds its claim or none. -/
theorem witness_handoffMovesOneSlot :
    (let s := served .p { onePublished (stopped 2) with cclaim := true };
      ∃ t, s.Inv ∧ ringUsable s = true ∧ exec .claimEmpty s = .next t ∧ t.pclaim = true ∧ s.pclaim = false) ∧
    (let s := served .p (bothClaimed (stopped 2));
      ∃ t, s.Inv ∧ ringUsable s = true ∧ exec (.publish 1 13) s = .next t ∧ t.count = s.count + 1) ∧
    (let s := served .c { onePublished (stopped 2) with pclaim := true };
      ∃ t, s.Inv ∧ ringUsable s = true ∧ exec (.claimFull 0) s = .next t ∧ t.cclaim = true ∧ s.cclaim = false) ∧
    (let s := served .c (bothClaimed (stopped 2));
      ∃ t, s.Inv ∧ ringUsable s = true ∧ exec (.release 0) s = .next t ∧ t.count ≠ s.count) :=
  ⟨⟨_, by decide, by decide, rfl, by decide, by decide⟩, ⟨_, by decide, by decide, rfl, by decide⟩,
    ⟨_, by decide, by decide, rfl, by decide, by decide⟩, ⟨_, by decide, by decide, rfl, by decide⟩⟩
/-- An INTAKE with a frame waiting. -/
theorem witness_publishedFramesAreAQueue :
    let s := moves (.agent .p 6) { waiting .ok .ok (onePublished (started 2)) with portP := ⟨[{ op := 0x30 }], .idle⟩ }
    ∃ t, s.Inv ∧ ringUsable s = true ∧ step s = .next t := ⟨_, by decide, by decide, rfl⟩
theorem witness_haltedIsForEver :
    let s := moves (.agent .p 6) { halted with portP := ⟨[{ op := 0x30 }], .idle⟩ }
    ∃ t, s.lstate = .halted ∧ step s = .next t := ⟨_, by decide, rfl⟩
/-- INIT from UNINIT, in an operation and in a step. -/
theorem witness_lifecycleTransitions :
    (let s := served .a (State.resetWith (smallConfig 2));
      ∃ t, exec .init s = .next t ∧ t.lstate ≠ s.lstate ∧ t.lstate ≠ .halted) ∧
    (let s := (State.resetWith (smallConfig 2)).withFetchWord 8 0x00;
      ∃ t, step s = .next t ∧ t.lstate ≠ s.lstate) :=
  ⟨⟨_, rfl, by decide, by decide⟩, ⟨_, rfl, by decide⟩⟩
/-- SLEEP is none of the operations any clause names; port C is another one. -/
theorem witness_registerWriters : ∃ t, exec .sleep (served .a (stopped 2)) = .next t ∧ Instr.sleep ≠ .init ∧
    (∀ cfg, Instr.sleep ≠ .start cfg) ∧ Instr.sleep ≠ .stop ∧ Instr.sleep ≠ .claimEmpty ∧ Instr.sleep ≠ .intake ∧
    (∀ a f, Instr.sleep ≠ .slotWrite a f) ∧ (∀ a b, Instr.sleep ≠ .publish a b) ∧ (∀ a, Instr.sleep ≠ .claimFull a) ∧
    (∀ a, Instr.sleep ≠ .release a) ∧ (∀ m, Instr.sleep ≠ .receive m) ∧ (∀ m f, Instr.sleep ≠ .transmit m f) ∧
    Agent.c ≠ (served .a (stopped 2)).turn.agent :=
  ⟨_, rfl, nofun, fun _ => nofun, nofun, nofun, nofun, fun _ _ => nofun, fun _ _ => nofun, fun _ => nofun,
    fun _ => nofun, fun _ => nofun, fun _ _ => nofun, nofun⟩
theorem witness_storesTouchOneSlot :
    let s := served .p { onePublished (stopped 2) with pclaim := true }
    ∃ t, Instr.slotWrite 1 (numbered 2) ≠ .init ∧ exec (.slotWrite 1 (numbered 2)) s = .next t ∧ 0 ≠ s.wr :=
  ⟨_, nofun, rfl, by decide⟩
/-- TRANSMIT is one of the operations named. -/
theorem witness_transmitPathIgnoresRing : ∃ m f, Instr.transmit 0 frameE6 = .transmit m f := ⟨0, frameE6, rfl⟩
theorem witness_producerNeverWaits :
    let s := served .p (onePublished (stopped 2))
    s.Inv ∧ s.turn.agent = .p ∧ s.lstate ≠ .halted ∧ ∃ a b, Instr.publish 1 13 = .publish a b :=
  ⟨by decide, by decide, by decide, 1, 13, rfl⟩
theorem witness_holdEndsOnlyByItsMoves :
    let s := moves (.agent .p 0) { stopped 2 with cwait := true, ctmo := 5, portP := ⟨[{ op := 0x20 }], .idle⟩ }
    ∃ t, ringUsable s = true ∧ s.cwait = true ∧ s.portC.stage = .idle ∧ (nextMove s).1 ≠ .complete ∧
      (nextMove s).1 ≠ .expire ∧ step s = .next t :=
  ⟨_, by decide, by decide, by decide, by decide, by decide, rfl⟩
/-- After a fault and a refusal. -/
theorem witness_recordsStay :
    let s := moves (.agent .a 0) { halted with refusedMet := true, portA := ⟨[{ op := 0x00 }], .idle⟩ }
    ∃ t, step s = .next t ∧ s.fault ≠ 0 ∧ s.refusedMet = true := ⟨_, rfl, by decide, by decide⟩

end Sys2Proof.Tests
end

section
/-! SUPPORT. Proofs for the scope statements: what one step does with the schedule's next move, the change of the
application thread, the widths of the cursors, and the reset state. -/

namespace Sys2Proof.Machine

/-! ## The next move and the turns -/

/-- The step takes the move the schedule names first (log 5). -/
theorem step_of_schedule {s : State} {m : Move} {rest : List Move} (h : s.schedule = m :: rest) :
    step s = takeMove m { s with schedule := rest } := by
  simp [step, nextMove, drawFrom, h]

theorem step_agent {s : State} {who : Agent} {steps : Nat} {rest : List Move}
    (h : s.schedule = .agent who steps :: rest) :
    step s = agentTurn who steps { s with schedule := rest } :=
  step_of_schedule h

theorem step_thread {s : State} {k : Nat} {rest : List Move} (h : s.schedule = .thread k :: rest) :
    step s = .next { s.switchThread k with schedule := rest } :=
  step_of_schedule h

/-- R67: an operation in progress goes on. -/
theorem agentTurn_goesOn {who : Agent} {steps : Nat} {s : State} (h : (s.port who).stage ≠ .idle) :
    agentTurn who steps s = advance who (steps + 1) { s with turn := ⟨who, steps⟩ } :=
  if_pos h

/-- R158: a held consumer has no step. -/
theorem agentTurn_held {who : Agent} {steps : Nat} {s : State} (h : (s.port who).stage = .idle)
    (hheld : who = .c ∧ consumerHeld s = true) : agentTurn who steps s = .next { s with turn := ⟨who, steps⟩ } :=
  (if_neg (not_not.2 h)).trans (if_pos hheld)

/-- R29: an idle agent that is no held consumer comes to its next request. -/
theorem agentTurn_serves {who : Agent} {steps : Nat} {s : State} (h : (s.port who).stage = .idle)
    (hfree : ¬ (who = .c ∧ consumerHeld s = true)) :
    agentTurn who steps s = serveRequest who { s with turn := ⟨who, steps⟩ } :=
  (if_neg (not_not.2 h)).trans (if_neg hfree)

theorem serveRequest_none {who : Agent} {s : State} (h : (s.port who).pending = []) :
    serveRequest who s = .next s := by
  simp [serveRequest, h]

theorem serveRequest_runs {who : Agent} {s : State} {r : Request} {more : List Request} {st : Stage} {i : Instr}
    (h : s.port who = ⟨r :: more, st⟩) (hr : decode r = .ok i) :
    serveRequest who s = exec i (s.setPort who ⟨more, st⟩) := by
  simp [serveRequest, h, hr]

/-- R29, R70: the step that gives a turn to an idle agent, no held consumer, runs its next request, taken off the
port. -/
theorem step_runs {s : State} {who : Agent} {steps : Nat} {r : Request} {more : List Request} {rest : List Move}
    {i : Instr} (hs : s.schedule = .agent who steps :: rest) (hport : s.port who = ⟨r :: more, .idle⟩)
    (hfree : ¬ (who = .c ∧ consumerHeld s = true)) (hr : decode r = .ok i) :
    step s = exec i (State.setPort { s with schedule := rest, turn := ⟨who, steps⟩ } who ⟨more, .idle⟩) := by
  have hidle : (s.port who).stage = .idle := by rw [hport]
  rw [step_agent hs, agentTurn_serves (s := { s with schedule := rest }) hidle hfree]
  exact serveRequest_runs hport hr

/-- R29, log 13: an agent with nothing in progress and nothing to issue has no step. -/
theorem agentTurn_quiet {who : Agent} {steps : Nat} {s : State} (h : s.port who = ⟨[], .idle⟩) :
    agentTurn who steps s = .next { s with turn := ⟨who, steps⟩ } := by
  have hidle : (s.port who).stage = .idle := by rw [h]
  have hnone : (State.port { s with turn := ⟨who, steps⟩ } who).pending = [] := congrArg Port.pending h
  by_cases hheld : who = .c ∧ consumerHeld s = true
  · exact agentTurn_held hidle hheld
  · rw [agentTurn_serves hidle hheld, serveRequest_none hnone]

/-! ## The change of the application thread (log 12) -/

/-- A TRANSMIT in progress joins the waiting ones, and a `k` past all of them leaves the port free. -/
theorem State.switchThread_pastEnd {s : State} {k : Nat} (h : s.portA.stage ≠ .idle) (hk : s.transmits.length < k) :
    s.switchThread k =
      { s with transmits := s.transmits ++ [s.portA.stage], portA := { s.portA with stage := .idle } } := by
  have hlen : (s.transmits ++ [s.portA.stage]).length ≤ k := by simpa using hk
  simp [State.switchThread, h, List.eraseIdx_of_length_le hlen, List.getElem?_eq_none hlen]

/-- A TRANSMIT in progress joins the waiting ones, and the `k`-th of them takes its place. -/
theorem State.switchThread_swap {s : State} {k : Nat} {st : Stage} (h : s.portA.stage ≠ .idle)
    (hk : s.transmits[k]? = some st) :
    s.switchThread k =
      { s with transmits := s.transmits.eraseIdx k ++ [s.portA.stage], portA := { s.portA with stage := st } } := by
  obtain ⟨hlt, -⟩ := List.getElem?_eq_some_iff.1 hk
  simp [State.switchThread, h, List.eraseIdx_append_of_lt_length hlt, List.getElem?_append_left hlt, hk]

/-- With the port free and no `k`-th TRANSMIT waiting nothing changes. -/
theorem State.switchThread_free {s : State} {k : Nat} (h : s.portA.stage = .idle) (hk : s.transmits.length ≤ k) :
    s.switchThread k = s := by
  have hport : ({ s.portA with stage := .idle } : Port) = s.portA := by rw [← h]
  simp [State.switchThread, h, List.eraseIdx_of_length_le hk, List.getElem?_eq_none hk, hport]

/-- The TRANSMIT that has just joined the waiting ones comes straight back. -/
theorem State.switchThread_self {s : State} (h : s.portA.stage ≠ .idle) :
    s.switchThread s.transmits.length = s := by
  simp [State.switchThread, h, List.eraseIdx_append_of_length_le]

/-- The TRANSMIT that waits last comes back to the free port A. -/
theorem State.switchThread_last {s : State} {waiting : List Stage} {st : Stage} (h : s.portA.stage = .idle)
    (hs : s.transmits = waiting ++ [st]) :
    s.switchThread waiting.length = { s with transmits := waiting, portA := { s.portA with stage := st } } := by
  rw [State.switchThread_back h (st := st) (by simp [hs])]
  simp [hs, List.eraseIdx_append_of_length_le]

/-- Settles O40: each clause is one turn of `agentTurn` or one case of `switchThread`. -/
theorem otherTurns : Obligations.OtherTurns := by
  refine ⟨fun s who steps rest hs => ⟨fun hbusy => ?_, fun hidle hc hheld => ?_, fun hquiet => ?_⟩,
    fun s k rest hs => ⟨fun hbusy hk => ?_, fun st hbusy hk => ?_, fun st hidle hk => ?_, fun hsame => ?_⟩⟩
  · rw [step_agent hs]; exact agentTurn_goesOn hbusy
  · rw [step_agent hs]; exact agentTurn_held hidle ⟨hc, hheld⟩
  · rw [step_agent hs]; exact agentTurn_quiet hquiet
  · rw [step_thread hs, State.switchThread_pastEnd hbusy hk]
  · rw [step_thread hs, State.switchThread_swap hbusy hk]
  · rw [step_thread hs, State.switchThread_back hidle hk]
  · rw [step_thread hs]
    obtain ⟨hidle, hk⟩ | ⟨hbusy, rfl⟩ := hsame
    · rw [State.switchThread_free hidle hk]
    · rw [State.switchThread_self hbusy]

/-! ## Questions asked while LINK = 0 (R287) -/

theorem whileLinked_refused {who : Agent} {k : State → Result} {s : State} (h : s.link = false) :
    whileLinked who k s = .next (s.markRefused who) := by
  simp [whileLinked, h, refuse]

theorem whileLinked_runs {who : Agent} {k : State → Result} {s : State} (h : s.link = true) :
    whileLinked who k s = k s := by
  simp [whileLinked, h]

theorem stageStep_intakePoll_unlinked {who : Agent} {s : State} (h : s.link = false) :
    stageStep who .intakePoll s = .next (s.markRefused who) := by
  rw [stageStep, askPollReadable, whileLinked_refused h]

theorem stageStep_intakeRead_unlinked {who : Agent} {s : State} (h : s.link = false) :
    stageStep who .intakeRead s = .next (s.markRefused who) := by
  rw [stageStep, askRead, whileLinked_refused h]

theorem stageStep_transmitWrite_unlinked {who : Agent} {w : WireBytes} {s : State} (h : s.link = false) :
    stageStep who (.transmitWrite w) s = .next (s.markRefused who) := by
  rw [stageStep, askWrite, whileLinked_refused h]

theorem exec_isTxReady_unlinked {s : State} (h : s.link = false) (hready : s.lstate = .ready)
    (hwho : s.turn.agent = .a) :
    exec (.isTxReady 0) s = .next ((s.log (.request .a (.isTxReady 0))).markRefused .a) := by
  have hlive : s.lstate ≠ .halted := by simp [hready]
  have hport : mayIssue s.turn.agent (.isTxReady 0) = true := by rw [hwho]; decide
  rw [exec, execIsTxReady, request_runs hlive hport, hwho, needReady_runs (by simpa using hready), needMailbox_zero,
    askPollWritable, whileLinked_refused (by simpa using h)]

/-! ## A STOP inside a TRANSMIT (R222, R287) -/

/-- R222: STOP in READY with no claim and no hold, the environment answering `ok`. -/
theorem exec_stop_closes {s : State} {closes : List Ack} {draws : Nat} (hwho : s.turn.agent = .a)
    (hready : s.lstate = .ready) (hlink : s.link = true) (hfree : lifecycleBusy s = false)
    (hdraw : drawFrom s.env.closes Config.freeClose s.draws = (.ok, closes, draws)) :
    exec .stop s = .next (State.respond (State.linkDown (State.log
      { s with env := { s.env with closes := closes }, draws := draws } (.request .a .stop))) .a .ok) := by
  have hlive : s.lstate ≠ .halted := by simp [hready]
  have hport : mayIssue s.turn.agent .stop = true := by rw [hwho]; decide
  have hfree' : lifecycleBusy (s.log (.request .a .stop)) = false := hfree
  rw [exec, execStop, request_runs hlive hport, hwho, needInit_runs (by simp [hready]), if_neg (by simp [hready]),
    closeLink, hfree', if_neg Bool.false_ne_true, askClose, whileLinked_runs (by simpa using hlink)]
  simp only [State.log_env, State.log_draws, hdraw]
  rfl

theorem advance_idle {who : Agent} {n : Nat} {s : State} (h : (s.port who).stage = .idle) :
    advance who n s = .next s := by
  cases n with
  | zero => rfl
  | succ n => simp [advance, h]

theorem advance_succ {who : Agent} {n : Nat} {s : State} (hlive : s.lstate ≠ .halted)
    (h : (s.port who).stage ≠ .idle) :
    advance who (n + 1) s = andThen (stageStep who (s.port who).stage s) (advance who n) := by
  simp [advance, hlive, h]

@[simp] theorem State.markRefused_stage (s : State) (who : Agent) : ((s.markRefused who).port who).stage = .idle := by
  cases who <;> rfl

/-- A refusal ends the operation, whatever stage it stands at. -/
@[simp] theorem State.setStage_markRefused (s : State) (who : Agent) (st : Stage) :
    (s.setStage who st).markRefused who = s.markRefused who := by
  cases who <;> rfl

/-- A turn of a TRANSMIT at its step 2 ends in the refusal while LINK = 0. -/
theorem advance_transmitWrite_unlinked {who : Agent} {n : Nat} {w : WireBytes} {s : State} (hlink : s.link = false)
    (hlive : s.lstate ≠ .halted) (hst : (s.port who).stage = .transmitWrite w) :
    advance who (n + 1) s = .next (s.markRefused who) := by
  rw [advance_succ hlive (by simp [hst]), hst, stageStep_transmitWrite_unlinked hlink]
  exact advance_idle (s.markRefused_stage who)

/-- A turn of a TRANSMIT at its step 1, long enough for its step 2, does so too. -/
theorem advance_transmitEncode_unlinked {who : Agent} {n : Nat} {f : InternalFrame} {s : State}
    (hlink : s.link = false) (hlive : s.lstate ≠ .halted) (hst : (s.port who).stage = .transmitEncode f) :
    advance who (n + 2) s = .next (s.markRefused who) := by
  have hencode : stageStep who (.transmitEncode f) s =
      .next (s.setStage who (.transmitWrite (encodeBytes s.params.wireByteOrder f))) := rfl
  rw [advance_succ hlive (by simp [hst]), hst, hencode,
    ← State.setStage_markRefused s who (.transmitWrite (encodeBytes s.params.wireByteOrder f))]
  exact advance_transmitWrite_unlinked (by simpa using hlink) (by simpa using hlive) (by rw [State.setStage_port])

/-- The turn of a TRANSMIT before its step 1 or 2 that reaches its step 2 while LINK = 0. -/
theorem advance_transmit_unlinked {n : Nat} {st : Stage} {f : InternalFrame} {w : WireBytes} {s : State}
    (hst : st = .transmitWrite w ∨ (st = .transmitEncode f ∧ 1 ≤ n)) (hport : s.portA.stage = st)
    (hlink : s.link = false) (hlive : s.lstate ≠ .halted) :
    advance .a (n + 1) s = .next (s.markRefused .a) := by
  obtain rfl | ⟨rfl, hn⟩ := hst
  · exact advance_transmitWrite_unlinked hlink hlive hport
  · obtain ⟨m, rfl⟩ : ∃ m, n = m + 1 := ⟨n - 1, by omega⟩
    exact advance_transmitEncode_unlinked hlink hlive hport

/-- A run of two parts, each of which answers a next state. -/
theorem andThen_eq_next {r : Result} {k : State → Result} {s t : State} (hr : r = .next s) (hk : k s = .next t) :
    andThen r k = .next t := by
  rw [hr]; exact hk

/-- The step that issues STOP on A (R222), the environment answering `ok`. -/
theorem step_stop_closes {s : State} {steps draws : Nat} {rest : List Move} {r : Request} {more : List Request}
    {closes : List Ack} (hs : s.schedule = .agent .a steps :: rest) (hport : s.portA = ⟨r :: more, .idle⟩)
    (hr : decode r = .ok .stop) (hready : s.lstate = .ready) (hlink : s.link = true)
    (hfree : lifecycleBusy s = false)
    (hdraw : drawFrom s.env.closes Config.freeClose s.draws = (.ok, closes, draws)) :
    step s = .next { s with
      lstate := .stopped
      link := false
      env := { s.env with closes := closes }
      draws := draws
      portA := ⟨more, .idle⟩
      turn := ⟨.a, steps⟩
      schedule := rest
      history := .response .a .ok :: .request .a .stop :: s.history } := by
  have stops := exec_stop_closes (s := State.setPort { s with schedule := rest, turn := ⟨.a, steps⟩ } .a ⟨more, .idle⟩)
    rfl hready hlink hfree hdraw
  rw [step_runs hs ((State.port_a s).trans hport) nofun hr, stops]
  rfl

/-- The step in which a TRANSMIT reaches its step 2 while LINK = 0. -/
theorem step_transmit_unlinked {s : State} {n : Nat} {rest : List Move} {st : Stage} {f : InternalFrame} {w : WireBytes}
    {more : List Request} (hs : s.schedule = .agent .a n :: rest)
    (hst : st = .transmitWrite w ∨ (st = .transmitEncode f ∧ 1 ≤ n)) (hport : s.portA = ⟨more, st⟩)
    (hlink : s.link = false) (hlive : s.lstate ≠ .halted) :
    step s = .next { s with
      refusedMet := true
      portA := ⟨more, .idle⟩
      turn := ⟨.a, n⟩
      schedule := rest
      history := .refused .a :: s.history } := by
  have hbusy : (State.port { s with schedule := rest } .a).stage ≠ .idle := by
    obtain rfl | ⟨rfl, -⟩ := hst <;> simp [hport]
  have refused := advance_transmit_unlinked (s := { s with schedule := rest, turn := ⟨.a, n⟩ }) hst (by rw [hport])
    hlink hlive
  rw [step_agent hs, agentTurn_goesOn hbusy, refused]
  simp [State.markRefused, State.setStage, State.setPort, hport]

/-- Settles O38: the four questions by their own rules; then the run of four steps: the TRANSMIT leaves port A, STOP
closes the link, the TRANSMIT comes back, and its write is refused. -/
theorem unlinkedQuestionsRefused : Obligations.UnlinkedQuestionsRefused := by
  refine ⟨fun s who w hlink => ⟨stageStep_intakePoll_unlinked hlink, stageStep_intakeRead_unlinked hlink,
    stageStep_transmitWrite_unlinked hlink, exec_isTxReady_unlinked hlink⟩, ?_⟩
  intro s st f w r more closes draws n rest hready hlink hpclaim hcclaim hcwait hst hport hr hdraw hsched
  have hbusy : s.portA.stage ≠ .idle := by
    obtain rfl | ⟨rfl, -⟩ := hst <;> simp [hport]
  have hfree : lifecycleBusy s = false := by simp [lifecycleBusy, hpclaim, hcclaim, hcwait]
  have leaves := step_thread hsched
  rw [State.switchThread_away hbusy, hport] at leaves
  have closed := andThen_eq_next leaves (step_stop_closes rfl rfl hr hready hlink hfree hdraw)
  have returned := andThen_eq_next closed (step_thread rfl)
  rw [State.switchThread_last rfl rfl] at returned
  exact andThen_eq_next returned (step_transmit_unlinked rfl hst rfl rfl nofun)

/-! ## The cursors' widths (R6, R23 to R25) -/

theorem le_two_pow_ceilLog2 (m : Nat) : m ≤ 2 ^ ceilLog2 m := by
  unfold ceilLog2
  split
  · simpa
  · have hlog : m - 1 < 2 ^ (Nat.log2 (m - 1) + 1) := Nat.lt_log2_self
    omega

theorem lt_two_pow_ptrBits {n i : Nat} (h : i < n) : i < 2 ^ ptrBits n :=
  calc i < n := h
    _ ≤ 2 ^ ceilLog2 n := le_two_pow_ceilLog2 n
    _ ≤ 2 ^ ptrBits n := Nat.pow_le_pow_right (by decide) (le_max_right _ _)

theorem lt_two_pow_cntBits {n k : Nat} (h : k ≤ n) : k < 2 ^ cntBits n :=
  calc k < n + 1 := Nat.lt_succ_of_le h
    _ ≤ 2 ^ cntBits n := le_two_pow_ceilLog2 (n + 1)

/-- R101: a slot reference below the largest capacity is exact. -/
theorem slotRef_toNat {i : Nat} (h : i < 256) : (slotRef i).toNat = i := by
  simpa [slotRef] using h

/-- Settles O49: R26 bounds the cursors by the capacity, which the widths of R6 hold. -/
theorem cursorsFitTheirWidths : Obligations.CursorsFitTheirWidths := by
  intro s hinv hring
  obtain ⟨⟨-, hn⟩, -, -, hcursors, -⟩ := hinv
  obtain ⟨hwr, hrd, hcount, -⟩ := hcursors hring
  exact ⟨lt_two_pow_ptrBits hwr, lt_two_pow_ptrBits hrd, lt_two_pow_cntBits hcount,
    slotRef_toNat (hwr.trans_le hn), slotRef_toNat (hrd.trans_le hn)⟩

/-! ## The reset state (R280) -/

/-- Before INIT the ring is not set up, so the clauses about it say nothing. -/
theorem ringUsable_resetWith (c : Config) : ringUsable (State.resetWith c) ≠ true := by
  simp [ringUsable, State.resetWith]

theorem inv_resetWith {c : Config} (hlow : 1 ≤ c.n) (hhigh : c.n ≤ 256) : (State.resetWith c).Inv := by
  have hring := ringUsable_resetWith c
  have hsizes : (State.resetWith c).SizesOk := by simp [State.SizesOk, State.resetWith]
  have hfault : (State.resetWith c).FaultOk := by simp [State.FaultOk, State.resetWith]
  exact ⟨⟨hlow, hhigh⟩, reset_wf, hsizes, (absurd · hring), (absurd · hring), (absurd · hring), (absurd · hring), hfault⟩

theorem owned_resetWith (c : Config) : (State.resetWith c).Owned :=
  ⟨rfl, rfl, rfl, nofun, fun _ => ⟨rfl, rfl, rfl, rfl⟩, (absurd · (ringUsable_resetWith c))⟩

/-- Settles O45: the default instance is the reset state of capacity 4. -/
theorem resetMeetsInvariant : Obligations.ResetMeetsInvariant :=
  ⟨fun c hlow hhigh => ⟨inv_resetWith hlow hhigh, owned_resetWith c⟩,
    inv_resetWith (c := Config.default) (by decide) (by decide), owned_resetWith Config.default⟩

end Sys2Proof.Machine
end

section
/-! SUPPORT. What an operation can do, said once: the elementary updates a run of it is made of, and that every
operation, every further step of one and every turn is such a run. The proofs of the whole machine's rules are case
splits over these updates. Then the functional statements of this family: START, INTAKE, the placed request, the
environment's moves. -/

namespace Sys2Proof.Machine

/-- One elementary update of a run of operation `i` by the agent `who`. The flags say, before and after it, whether the
operation has had its one effect: a handoff, a change of LSTATE or a refusal, after which it only reports
(R66, R191). -/
inductive Does (who : Agent) (i : Instr) : Bool → Bool → State → State → Prop
  | log {d s} (e : Event) : Does who i d d s (s.log e)
  | stage {d s} (st : Stage) : Does who i d d s (s.setStage who st)
  | ask {s} {env : Env} {draws : Nat} (hrx : env.wireRx = s.env.wireRx) (htx : env.wireTx = s.env.wireTx) :
      Does who i false false s { s with env := env, draws := draws }
  | take {s w rest e} (hi : i = .intake) (hrx : s.env.wireRx = w :: rest) :
      Does who i false false s (s.dropHead w rest e)
  | send {s w} (hi : ∃ m f, i = .transmit m f) :
      Does who i false false s { s with env := { s.env with wireTx := s.env.wireTx ++ [w] } }
  | name {s} (cfg : CfgName) (hi : ∃ cfg, i = .start cfg) : Does who i false false s { s with cfg := some cfg }
  | claimEmpty {s} (hi : i = .claimEmpty ∨ i = .intake) (hfree : s.pclaim = false) (hroom : s.count ≠ s.params.n) :
      Does who i false false s { s with pclaim := true }
  | store {s f} (hi : (∃ a f, i = .slotWrite a f) ∨ i = .intake) (hclaim : s.pclaim = true) :
      Does who i false false s (s.putFrame s.wr f)
  | claimFull {s} (hi : (∃ t, i = .claimFull t) ∨ ∃ m, i = .receive m) (hfree : s.cclaim = false)
      (hfull : s.count ≠ 0) : Does who i false false s { s with cclaim := true }
  | hold {s timeout} (hi : ∃ t, i = .claimFull t) (hwho : who = .c) (hfree : s.cclaim = false) (hempty : s.count = 0)
      (htimeout : timeout ≠ immediateTimeout) : Does who i false false s (s.hold timeout)
  | publish {s size} (hi : (∃ a b, i = .publish a b) ∨ i = .intake) (hclaim : s.pclaim = true)
      (hsize : sizeAccepted size = true) (hin : s.wr < s.slots.length) : Does who i false true s (s.published size)
  | release {s} (hi : (∃ a, i = .release a) ∨ ∃ m, i = .receive m) (hclaim : s.cclaim = true) :
      Does who i false true s s.released
  | setUp {s} (hi : i = .init) (hstate : s.lstate = .uninit) : Does who i false true s s.initialised
  | linkUp {s} (fresh : List WireBytes) (hi : ∃ cfg, i = .start cfg) (hstate : s.lstate = .stopped)
      (hfree : lifecycleBusy s = false) : Does who i false true s (s.linkUp fresh)
  | linkDown {s} (hi : i = .stop) (hstate : s.lstate = .ready) (hfree : lifecycleBusy s = false) :
      Does who i false true s s.linkDown
  | fault {s c} (hc : c ≠ .nullHandle) : Does who i false true s (s.takeFault who c)
  | mark {s} : Does who i false true s (s.markRefused who)

/-- A run of `i` by `who` from `s`: elementary updates one after the other, the flag carried along. -/
inductive Runs (who : Agent) (i : Instr) (s : State) : Bool → State → Prop
  | start : Runs who i s false s
  | next {d d' t u} (h : Runs who i s d t) (hdo : Does who i d d' t u) : Runs who i s d' u

/-- `t` is where some run of `i` from `s` has come to. -/
def Reaches (who : Agent) (i : Instr) (s t : State) : Prop := ∃ d, Runs who i s d t

/-- The stages of operation `i`, and whether its one effect may lie behind them. -/
def Stage.fits (i : Instr) (done : Bool) : Stage → Prop
  | .idle => True
  | .intakePoll => i = .intake ∧ done = false
  | .intakeRead => i = .intake ∧ done = false
  | .intakeDecode _ => i = .intake ∧ done = false
  | .intakeClaim _ => i = .intake ∧ done = false
  | .intakeStore _ _ => i = .intake ∧ done = false
  | .intakeReport => i = .intake
  | .receiveClaim => (∃ m, i = .receive m) ∧ done = false
  | .receiveRead _ => (∃ m, i = .receive m) ∧ done = false
  | .receiveRelease _ _ => (∃ m, i = .receive m) ∧ done = false
  | .receiveReply _ => ∃ m, i = .receive m
  | .transmitEncode _ => (∃ m f, i = .transmit m f) ∧ done = false
  | .transmitWrite _ => (∃ m f, i = .transmit m f) ∧ done = false
  | .transmitReply => ∃ m f, i = .transmit m f

/-- Every stage is one of some operation whose one effect is still to come. -/
theorem Stage.fits_some (st : Stage) : ∃ i, st.fits i false := by
  cases st with
  | idle => exact ⟨.intake, trivial⟩
  | intakePoll | intakeRead | intakeDecode | intakeClaim | intakeStore => exact ⟨.intake, rfl, rfl⟩
  | intakeReport => exact ⟨.intake, rfl⟩
  | receiveClaim | receiveRead | receiveRelease => exact ⟨.receive 0, ⟨_, rfl⟩, rfl⟩
  | receiveReply => exact ⟨.receive 0, _, rfl⟩
  | transmitEncode f | transmitWrite => exact ⟨.transmit 0 default, ⟨_, _, rfl⟩, rfl⟩
  | transmitReply => exact ⟨.transmit 0 default, _, _, rfl⟩

/-- A run that stands at a stage of its own operation. -/
def Stands (who : Agent) (i : Instr) (s t : State) : Prop := ∃ d, Runs who i s d t ∧ (t.port who).stage.fits i d

theorem Stands.reaches {who : Agent} {i : Instr} {s t : State} (h : Stands who i s t) : Reaches who i s t :=
  let ⟨d, hr, _⟩ := h
  ⟨d, hr⟩

section
variable {who : Agent} {i : Instr} {s t : State} {d : Bool}

/-! ## How a run ends or goes on -/

theorem Runs.log (h : Runs who i s d t) (e : Event) : Runs who i s d (t.log e) := h.next (.log e)

theorem Runs.respond (h : Runs who i s d t) {r : Response} : Runs who i s d (t.respond who r) :=
  (h.log (.response who r)).next (.stage .idle)

theorem Runs.ask (h : Runs who i s false t) {env : Env} {draws : Nat} (hrx : env.wireRx = t.env.wireRx)
    (htx : env.wireTx = t.env.wireTx) : Runs who i s false { t with env := env, draws := draws } :=
  h.next (.ask hrx htx)

theorem Runs.reaches_respond (h : Runs who i s d t) {r : Response} : Reaches who i s (t.respond who r) := ⟨d, h.respond⟩

theorem Runs.reaches_fault (h : Runs who i s false t) {c : FaultCode} (hc : c ≠ .nullHandle) :
    Reaches who i s (t.takeFault who c) := ⟨true, h.next (.fault hc)⟩

theorem Runs.reaches_mark (h : Runs who i s false t) : Reaches who i s (t.markRefused who) := ⟨true, h.next .mark⟩

/-- An idle agent stands at no stage of an operation. -/
theorem Reaches.stands (h : Reaches who i s t) (hidle : (t.port who).stage = .idle) : Stands who i s t :=
  let ⟨d, hr⟩ := h
  ⟨d, hr, by rw [hidle]; trivial⟩

theorem Runs.stands_respond (h : Runs who i s d t) {r : Response} : Stands who i s (t.respond who r) :=
  h.reaches_respond.stands (by simp [State.respond])

theorem Runs.stands_fault (h : Runs who i s false t) {c : FaultCode} (hc : c ≠ .nullHandle) :
    Stands who i s (t.takeFault who c) :=
  (h.reaches_fault hc).stands (by simp [State.takeFault])

theorem Runs.stands_mark (h : Runs who i s false t) : Stands who i s (t.markRefused who) :=
  h.reaches_mark.stands (by simp)

theorem Runs.stands_stage (h : Runs who i s d t) {st : Stage} (hst : st.fits i d) :
    Stands who i s (t.setStage who st) :=
  ⟨d, h.next (.stage st), by simpa using hst⟩

/-! ## The steps of the composite operations -/

/-- One atomic step of an operation in progress is a run of it (R190, R192, R194). -/
theorem stageStep_stands {st : Stage} (h : Runs who i s d t) (hport : (t.port who).stage = st) (hst : st.fits i d) :
    Ends (Stands who i s) (fun _ => True) (stageStep who st t) := by
  cases st with
  | idle => exact ends_next.2 (Reaches.stands ⟨d, h⟩ hport)
  | intakePoll =>
    obtain ⟨rfl, rfl⟩ := hst
    have asked (pollReads draws) := h.ask (env := { t.env with pollReads := pollReads }) (draws := draws) rfl rfl
    rw [stageStep]
    refine askPollReadable_ends (fun _ => h.stands_mark) fun x pollReads draws _ => ?_
    cases x with
    | failed => exact (asked pollReads draws).stands_fault (by decide)
    | no => exact (asked pollReads draws).stands_respond
    | yes => exact (asked pollReads draws).stands_stage (st := .intakeRead) ⟨rfl, rfl⟩
  | intakeRead =>
    obtain ⟨rfl, rfl⟩ := hst
    have asked (reads draws) := h.ask (env := { t.env with reads := reads }) (draws := draws) rfl rfl
    rw [stageStep]
    exact askRead_ends (fun _ => h.stands_mark)
      (fun w _ reads draws _ hrx =>
        ((asked reads draws).next (.take rfl hrx)).stands_stage (st := .intakeDecode w) ⟨rfl, rfl⟩)
      (fun _ _ reads draws _ hrx => ((asked reads draws).next (.take rfl hrx)).stands_fault (by decide))
      fun reads draws _ => (asked reads draws).stands_fault (by decide)
  | intakeDecode w =>
    obtain ⟨rfl, rfl⟩ := hst
    exact h.stands_stage (st := .intakeClaim _) ⟨rfl, rfl⟩
  | intakeClaim f =>
    obtain ⟨rfl, rfl⟩ := hst
    rw [stageStep]
    exact claimEmpty_ends (fun _ => h.stands_fault (by decide)) (fun _ _ => h.stands_respond)
      fun hfree hroom =>
        (h.next (.claimEmpty (.inr rfl) hfree hroom)).stands_stage (st := .intakeStore _ f) ⟨rfl, rfl⟩
  | intakeStore slot f =>
    obtain ⟨rfl, rfl⟩ := hst
    refine intakeStore_ends (h.stands_fault (by decide)) (fun hclaim _ hin => ?_) fun _ _ => trivial
    have stored := h.next (.store (f := f) (.inr rfl) hclaim)
    have published := stored.next (.publish (size := intakeSize) (.inr rfl) hclaim (by decide) (by simpa using hin))
    exact (published.log .rxEvent).stands_stage (st := .intakeReport) rfl
  | intakeReport => exact h.stands_respond
  | receiveClaim =>
    obtain ⟨hi, rfl⟩ := hst
    rw [stageStep]
    exact claimFull_ends (fun _ => h.stands_fault (by decide))
      (fun _ hfree hfull _ => (h.next (.claimFull (.inr hi) hfree hfull)).stands_stage (st := .receiveRead _) ⟨hi, rfl⟩)
      (fun _ _ _ => h.stands_respond) (fun _ _ hne => absurd rfl hne) fun _ _ => trivial
  | receiveRead slot =>
    obtain ⟨hi, rfl⟩ := hst
    rw [stageStep]
    exact slotRead_ends (fun c hc => h.stands_fault (by rcases hc with rfl | rfl <;> decide))
      (fun f _ _ _ => h.stands_stage (st := .receiveRelease slot f) ⟨hi, rfl⟩) fun _ _ => trivial
  | receiveRelease slot f =>
    obtain ⟨hi, rfl⟩ := hst
    rw [stageStep]
    exact release_ends (fun c hc => h.stands_fault (by rcases hc with rfl | rfl <;> decide))
      fun hclaim _ => (h.next (.release (.inr hi) hclaim)).stands_stage (st := .receiveReply f) hi
  | receiveReply f => exact h.stands_respond
  | transmitEncode f => exact h.stands_stage (st := .transmitWrite _) hst
  | transmitWrite w =>
    obtain ⟨hi, rfl⟩ := hst
    have asked (writes draws) := h.ask (env := { t.env with writes := writes }) (draws := draws) rfl rfl
    rw [stageStep]
    exact askWrite_ends (fun _ => h.stands_mark)
      (fun writes draws _ =>
        (((asked writes draws).next (.send hi)).log (.sent w)).stands_stage (st := .transmitReply) hi)
      fun writes draws _ => (asked writes draws).stands_fault (by decide)
  | transmitReply => exact h.stands_respond

/-- So are all the steps of a turn. -/
theorem advance_stands {fuel : Nat} (h : Stands who i s t) :
    Ends (Stands who i s) (fun _ => True) (advance who fuel t) :=
  advance_ends (fun _ h _ => let ⟨_, hr, hst⟩ := h; stageStep_stands hr rfl hst) fuel t h

theorem advance_reaches {fuel : Nat} (h : Stands who i s t) :
    Ends (Reaches who i s) (fun _ => True) (advance who fuel t) :=
  ends_mono (fun _ => Stands.reaches) (advance_stands h)

theorem begin_reaches {st : Stage} (h : Runs who i s d t) (hst : st.fits i d) :
    Ends (Reaches who i s) (fun _ => True) (begin who st t) :=
  advance_reaches (h.stands_stage hst)

/-! ## The common checks -/

theorem request_reaches {body : Agent → State → Result}
    (hbody : s.lstate ≠ .halted → mayIssue s.turn.agent i = true →
      Ends (Reaches s.turn.agent i s) (fun _ => True) (body s.turn.agent (s.log (.request s.turn.agent i)))) :
    Ends (Reaches s.turn.agent i s) (fun _ => True) (request i body s) :=
  request_ends (Runs.start.log _).reaches_mark hbody

theorem needInit_reaches {k : State → Result} (h : Runs who i s false t)
    (hk : t.lstate ≠ .uninit → Ends (Reaches who i s) (fun _ => True) (k t)) :
    Ends (Reaches who i s) (fun _ => True) (needInit who k t) :=
  needInit_ends (h.reaches_fault (by decide)) hk

theorem needReady_reaches {k : State → Result} (h : Runs who i s false t)
    (hk : Ends (Reaches who i s) (fun _ => True) (k t)) :
    Ends (Reaches who i s) (fun _ => True) (needReady who k t) :=
  needReady_ends (h.reaches_fault (by decide)) fun _ => hk

theorem needMailbox_reaches {mbox : Byte} {k : State → Result} (h : Runs who i s false t)
    (hk : Ends (Reaches who i s) (fun _ => True) (k t)) :
    Ends (Reaches who i s) (fun _ => True) (needMailbox who mbox k t) :=
  needMailbox_ends h.reaches_mark (h.reaches_fault (by decide)) hk

theorem openLink_reaches {cfg name : CfgName} (h : Runs who (.start cfg) s false t) (hstate : t.lstate = .stopped) :
    Ends (Reaches who (.start cfg) s) (fun _ => True) (openLink who name t) := by
  unfold openLink
  split
  · exact ends_raise.2 (h.reaches_fault (by decide))
  · next hbusy =>
    have named := h.next (.name name ⟨cfg, rfl⟩)
    refine askOpen_ends fun x opens draws => ?_
    have asked := (named.ask (env := { t.env with opens := opens }) (draws := draws) rfl rfl).log (.opening (some name))
    cases x with
    | ok fresh => exact (asked.next (.linkUp fresh ⟨cfg, rfl⟩ hstate (eq_false_of_ne_true hbusy))).reaches_respond
    | openFailed | resolveFailed | bindFailed => exact asked.reaches_fault (by decide)

theorem closeLink_reaches (h : Runs who .stop s false t) (hstate : t.lstate = .ready) :
    Ends (Reaches who .stop s) (fun _ => True) (closeLink who t) := by
  unfold closeLink
  split
  · exact ends_raise.2 (h.reaches_fault (by decide))
  · next hbusy =>
    refine askClose_ends (fun _ => h.reaches_mark) fun x closes draws _ => ?_
    have asked := h.ask (env := { t.env with closes := closes }) (draws := draws) rfl rfl
    cases x with
    | ok => exact (asked.next (.linkDown rfl hstate (eq_false_of_ne_true hbusy))).reaches_respond
    | failed => exact asked.reaches_fault (by decide)
end

/-- Every operation is a run of itself by the agent whose turn it is. -/
theorem exec_reaches (i : Instr) (s : State) : Ends (Reaches s.turn.agent i s) (fun _ => True) (exec i s) := by
  have issued := (Runs.start (who := s.turn.agent) (i := i) (s := s)).log (.request s.turn.agent i)
  cases i with
  | init =>
    rw [exec, execInit]
    refine request_reaches fun _ _ => ?_
    split
    · next hstate => exact (issued.next (.setUp rfl hstate)).reaches_respond
    · exact issued.reaches_fault (by decide)
  | start cfg =>
    rw [exec, execStart]
    refine request_reaches fun hlive _ => needInit_reaches issued fun hset => ?_
    split
    · exact issued.reaches_respond
    · next hready =>
      refine openLink_reaches issued ?_
      cases hs : s.lstate <;> simp_all
  | stop =>
    rw [exec, execStop]
    refine request_reaches fun hlive _ => needInit_reaches issued fun hset => ?_
    split
    · exact issued.reaches_respond
    · next hstopped =>
      refine closeLink_reaches issued ?_
      cases hs : s.lstate <;> simp_all
  | sleep =>
    rw [exec, execSleep]
    exact request_reaches fun _ _ => issued.reaches_respond
  | wakeup =>
    rw [exec, execWakeup]
    exact request_reaches fun _ _ => issued.reaches_respond
  | encode f =>
    rw [exec, execEncode]
    exact request_reaches fun _ _ => issued.reaches_respond
  | decode w =>
    rw [exec, execDecode]
    exact request_reaches fun _ _ => issued.reaches_respond
  | claimEmpty =>
    rw [exec, execClaimEmpty]
    exact request_reaches fun _ _ => needInit_reaches issued fun _ =>
      claimEmpty_ends (fun _ => issued.reaches_fault (by decide)) (fun _ _ => issued.reaches_respond)
        fun hfree hroom => (issued.next (.claimEmpty (.inl rfl) hfree hroom)).reaches_respond
  | slotWrite slot f =>
    rw [exec, execSlotWrite]
    exact request_reaches fun _ _ => needInit_reaches issued fun _ =>
      slotWrite_ends (issued.reaches_fault (by decide))
        (fun hclaim _ _ => (issued.next (.store (.inl ⟨_, _, rfl⟩) hclaim)).reaches_respond) fun _ _ => trivial
  | publish slot size =>
    rw [exec, execPublish]
    exact request_reaches fun _ _ => needInit_reaches issued fun _ =>
      publish_ends (fun c hc => issued.reaches_fault (by rcases hc with rfl | rfl | rfl <;> decide))
        (fun hclaim _ hsize hin => (issued.next (.publish (.inl ⟨_, _, rfl⟩) hclaim hsize hin)).reaches_respond)
        fun _ _ => trivial
  | claimFull timeout =>
    rw [exec, execClaimFull]
    refine request_reaches fun _ hport => needInit_reaches issued fun _ =>
      claimFull_ends (fun _ => issued.reaches_fault (by decide))
        (fun _ hfree hfull _ => (issued.next (.claimFull (.inl ⟨_, rfl⟩) hfree hfull)).reaches_respond)
        (fun _ _ _ => issued.reaches_respond) (fun hfree hempty htimeout => ?_) fun _ _ => trivial
    have hwho : s.turn.agent = .c := by simpa [mayIssue, issuers] using hport
    exact ⟨false, issued.next (.hold ⟨_, rfl⟩ hwho hfree hempty htimeout)⟩
  | slotRead slot =>
    rw [exec, execSlotRead]
    exact request_reaches fun _ _ => needInit_reaches issued fun _ =>
      slotRead_ends (fun c hc => issued.reaches_fault (by rcases hc with rfl | rfl <;> decide))
        (fun _ _ _ _ => issued.reaches_respond) fun _ _ => trivial
  | release slot =>
    rw [exec, execRelease]
    exact request_reaches fun _ _ => needInit_reaches issued fun _ =>
      release_ends (fun c hc => issued.reaches_fault (by rcases hc with rfl | rfl <;> decide))
        fun hclaim _ => (issued.next (.release (.inl ⟨_, rfl⟩) hclaim)).reaches_respond
  | intake =>
    rw [exec, execIntake]
    refine request_reaches fun _ _ => ?_
    split
    · exact begin_reaches (st := .intakePoll) issued ⟨rfl, rfl⟩
    · exact issued.reaches_respond
  | receive mbox =>
    rw [exec, execReceive]
    exact request_reaches fun _ _ => needReady_reaches issued (needMailbox_reaches issued
      (begin_reaches (st := .receiveClaim) issued ⟨⟨_, rfl⟩, rfl⟩))
  | transmit mbox f =>
    rw [exec, execTransmit]
    exact request_reaches fun _ _ => needReady_reaches issued (needMailbox_reaches issued
      (begin_reaches (st := .transmitEncode f) issued ⟨⟨_, _, rfl⟩, rfl⟩))
  | isRxNonempty mbox =>
    rw [exec, execIsRxNonempty]
    exact request_reaches fun _ _ => needReady_reaches issued (needMailbox_reaches issued issued.reaches_respond)
  | isTxReady mbox =>
    rw [exec, execIsTxReady]
    refine request_reaches fun _ _ => needReady_reaches issued (needMailbox_reaches issued
      (askPollWritable_ends (fun _ => issued.reaches_mark) fun x pollWrites draws _ => ?_))
    have asked := issued.ask (env := { s.env with pollWrites := pollWrites }) (draws := draws) rfl rfl
    cases x with
    | failed => exact asked.reaches_fault (by decide)
    | yes | no => exact asked.reaches_respond
  | abort mbox =>
    rw [exec, execAbort]
    exact request_reaches fun _ _ => needMailbox_reaches issued issued.reaches_respond

/-! ## Turns and moves -/

/-- The turn of `who` recorded, and `pending` left of the requests on its port. -/
def State.served (s : State) (who : Agent) (steps : Nat) (pending : List Request) : State :=
  State.setPort { s with turn := ⟨who, steps⟩ } who { s.port who with pending := pending }

theorem State.served_same (s : State) (who : Agent) (steps : Nat) :
    s.served who steps (s.port who).pending = { s with turn := ⟨who, steps⟩ } := by cases who <;> rfl

/-- A request with a reserved code does nothing that is not done by every operation: it is recorded, and faults or is
refused. -/
theorem illegalRequest_reaches (i : Instr) (op : Byte) (s : State) :
    Ends (Reaches s.turn.agent i s) (fun _ => True) (illegalRequest op s) :=
  illegalRequest_ends (Runs.start.log _).reaches_mark fun _ => (Runs.start.log _).reaches_fault (by decide)

/-- A turn of an agent is a run of one operation: the one in progress, or the next request. -/
theorem agentTurn_reaches (who : Agent) (steps : Nat) (s : State) :
    Ends (fun t => ∃ pending i, Reaches who i (s.served who steps pending) t) (fun _ => True)
      (agentTurn who steps s) := by
  have hsame := s.served_same who steps
  have hstay : ∃ pending i, Reaches who i (s.served who steps pending) { s with turn := ⟨who, steps⟩ } :=
    ⟨_, .sleep, false, by rw [hsame]; exact .start⟩
  by_cases hbusy : (s.port who).stage = .idle
  · by_cases hheld : who = .c ∧ consumerHeld s = true
    · rw [agentTurn_held hbusy hheld]
      exact ends_next.2 hstay
    · rw [agentTurn_serves hbusy hheld]
      refine serveRequest_ends hstay (fun r pending i _ _ => ?_) fun r pending op _ _ => ?_
      · have hrun := exec_reaches i (s.served who steps pending)
        rw [show (s.served who steps pending).turn.agent = who by simp [State.served]] at hrun
        exact ends_mono (fun t ht => ⟨pending, i, ht⟩) hrun
      · have hrun := illegalRequest_reaches .sleep op (s.served who steps pending)
        rw [show (s.served who steps pending).turn.agent = who by simp [State.served]] at hrun
        exact ends_mono (fun t ht => ⟨pending, .sleep, ht⟩) hrun
  · rw [agentTurn_goesOn hbusy, ← hsame]
    obtain ⟨i, hfits⟩ := (s.port who).stage.fits_some
    have hstands : Stands who i (s.served who steps (s.port who).pending) (s.served who steps (s.port who).pending) :=
      ⟨false, .start, by simpa [State.served] using hfits⟩
    exact ends_mono (fun t ht => ⟨_, i, ht⟩) (advance_reaches hstands)

/-- What one move can do: a run of an operation, another thread at port A, a change of WIRE_RX by the environment, the
end of a hold, or nothing. -/
theorem takeMove_ends {P : State → Prop} {m : Move} {s : State} (hstay : P s)
    (hturn : ∀ who steps pending i t, Reaches who i (s.served who steps pending) t → P t)
    (hthread : ∀ k, P (s.switchThread k))
    (henv : ∀ rx e, P (State.log { s with env := { s.env with wireRx := rx } } e))
    (hcomplete : ∀ cell, ringUsable s = true → s.cwait = true → s.count > 0 → s.cclaim = false →
      s.slots[s.rd]? = some cell →
      P (State.respond { s with cwait := false, cclaim := true } .c (.slotSize (slotRef s.rd) cell.size)))
    (hexpire : ringUsable s = true → P (State.respond { s with cwait := false } .c .empty)) :
    Ends P (fun _ => True) (takeMove m s) := by
  cases m with
  | agent who steps => exact ends_mono (fun t ⟨_, _, ht⟩ => hturn _ _ _ _ t ht) (agentTurn_reaches who steps s)
  | thread k => exact ends_next.2 (hthread k)
  | inject w => exact injectFrame_ends hstay fun _ => henv _ _
  | lose k => exact loseFrame_ends hstay fun _ _ _ => henv _ _
  | complete => exact completeHeld_ends hstay hcomplete fun _ _ _ => trivial
  | expire => exact expireHeld_ends hstay fun hring _ _ => hexpire hring

/-- What holds of the start of a run and is kept by every elementary update, holds wherever the run comes to. -/
theorem Reaches.induct {who : Agent} {i : Instr} {s t : State} {P : State → Prop} (h : Reaches who i s t) (hstart : P s)
    (hdo : ∀ d d' u v, Does who i d d' u v → P u → P v) : P t := by
  obtain ⟨d, hr⟩ := h
  induction hr with
  | start => exact hstart
  | next _ h ih => exact hdo _ _ _ _ h ih

/-! ## The rules of a run's records (R33, R46, R254, R255) -/

/-- What every step keeps: the first fault's code, the mark of a refusal, the history so far, the parameters. -/
structure RecordsKept (s t : State) : Prop where
  fault : s.fault ≠ 0 → t.fault = s.fault
  refusedMet : s.refusedMet = true → t.refusedMet = true
  history : s.history <:+ t.history
  params : t.params = s.params

theorem RecordsKept.refl (s : State) : RecordsKept s s := ⟨fun _ => rfl, id, List.suffix_rfl, rfl⟩

theorem RecordsKept.trans {s t u : State} (h : RecordsKept s t) (h' : RecordsKept t u) : RecordsKept s u where
  fault hs := (h'.fault (by rwa [h.fault hs])).trans (h.fault hs)
  refusedMet hs := h'.refusedMet (h.refusedMet hs)
  history := h.history.trans h'.history
  params := h'.params.trans h.params

/-- An update that leaves three of the records alone and adds events to the history. -/
theorem RecordsKept.of_eq {s t : State} (hfault : t.fault = s.fault) (hmark : t.refusedMet = s.refusedMet)
    (hhistory : s.history <:+ t.history) (hparams : t.params = s.params) : RecordsKept s t :=
  ⟨fun _ => hfault, fun h => hmark.trans h, hhistory, hparams⟩

theorem recordsKept_log (s : State) (e : Event) : RecordsKept s (s.log e) :=
  .of_eq rfl rfl (List.suffix_cons _ _) rfl

theorem recordsKept_setStage (s : State) (who : Agent) (st : Stage) : RecordsKept s (s.setStage who st) :=
  .of_eq (by simp) (by simp) (by simp) (by simp)

theorem RecordsKept.respond {s t : State} (h : RecordsKept s t) (who : Agent) (r : Response) :
    RecordsKept s (t.respond who r) :=
  (h.trans (recordsKept_log t _)).trans (recordsKept_setStage _ who .idle)

theorem Does.recordsKept {who : Agent} {i : Instr} {d d' : Bool} {s t : State} (h : Does who i d d' s t) :
    RecordsKept s t := by
  cases h with
  | log e => exact recordsKept_log s e
  | stage st => exact recordsKept_setStage s who st
  | fault => exact ⟨fun hs => (s.takeFault_fault who _).trans (if_neg hs), by simp, by simp, by simp⟩
  | mark => exact ⟨fun _ => by simp, by simp, by simp, by simp⟩
  | take | publish | hold => exact .of_eq rfl rfl (by simp) rfl
  | linkUp fresh => exact .of_eq (by simp) (by simp) (by simp [State.linkUp]) (by simp)
  | ask | send | name | claimEmpty | store | claimFull | release | setUp | linkDown =>
    exact .of_eq rfl rfl List.suffix_rfl rfl

theorem Reaches.recordsKept {who : Agent} {i : Instr} {s t : State} (h : Reaches who i s t) : RecordsKept s t :=
  h.induct (.refl s) fun _ _ _ _ hdo hu => hu.trans hdo.recordsKept

theorem takeMove_recordsKept (m : Move) (s : State) : Ends (RecordsKept s) (fun _ => True) (takeMove m s) := by
  have served (who steps pending) : RecordsKept s (s.served who steps pending) :=
    .of_eq (by simp [State.served]) (by simp [State.served]) (by simp [State.served]) (by simp [State.served])
  have ended (cclaim) : RecordsKept s { s with cwait := false, cclaim := cclaim } := .of_eq rfl rfl List.suffix_rfl rfl
  exact takeMove_ends (.refl s) (fun _ _ _ _ _ ht => (served _ _ _).trans ht.recordsKept)
    (fun _ => .of_eq rfl rfl List.suffix_rfl rfl) (fun _ _ => .of_eq rfl rfl (List.suffix_cons _ _) rfl)
    (fun _ _ _ _ _ _ => (ended true).respond _ _) fun _ => (ended s.cclaim).respond _ _

/-- Settles O60: every elementary update of every move keeps the four records. -/
theorem recordsStay : Obligations.RecordsStay := by
  intro s t h
  obtain ⟨hfault, hmark, ⟨es, hes⟩, hparams⟩ := (takeMove_recordsKept _ (nextMove s).2).of_next h
  exact ⟨hfault, hmark, ⟨es, hes.symm⟩, hparams⟩

/-! ## The invariant (R26, R28, R31, R33) -/

theorem ringUsable_iff {s : State} : ringUsable s = true ↔ s.lstate = .stopped ∨ s.lstate = .ready := by
  simp [ringUsable]

/-- A size stored is the size read. -/
theorem putSize_sizeAt {s : State} {i : Nat} {z : Byte} (h : i < s.slots.length) :
    (s.putSize i z).sizeAt i = some z := by
  simp [State.sizeAt, List.getElem?_eq_getElem h]

/-- Storing a size leaves every other slot's alone. -/
theorem putSize_sizeAt_other {s : State} {i j : Nat} {z : Byte} (h : j ≠ i) :
    (s.putSize i z).sizeAt j = s.sizeAt j := by
  simp [State.sizeAt, Ne.symm h]

theorem all_modify {α : Type} {p : α → Bool} {f : α → α} (hf : ∀ x, p x = true → p (f x) = true) :
    ∀ {l : List α} {i : Nat}, l.all p = true → (l.modify i f).all p = true
  | [], i, _ => by cases i <;> simp
  | x :: l, 0, h => by simp_all
  | x :: l, i + 1, h => by
    rw [List.all_cons, Bool.and_eq_true] at h
    rw [List.modify_succ_cons, List.all_cons, h.1, all_modify hf h.2, Bool.and_self]

theorem sizesOk_putFrame {s : State} {i : Nat} {f : InternalFrame} (h : s.SizesOk) : (s.putFrame i f).SizesOk := by
  rw [State.SizesOk, State.putFrame_slots]
  refine all_modify ?_ h
  exact fun _ hx => hx

theorem sizesOk_putSize {s : State} {i : Nat} {z : Byte} (hz : sizeAccepted z = true) (h : s.SizesOk) :
    (s.putSize i z).SizesOk := by
  rw [State.SizesOk, State.putSize_slots]
  refine all_modify ?_ h
  exact fun _ _ => hz

/-- R252: in HALTED the ring is not set up, and the code taken is one a rule raises. -/
theorem inv_takeFault {s : State} {who : Agent} {c : FaultCode} (hc : c ≠ .nullHandle) (h : s.Inv) :
    (s.takeFault who c).Inv := by
  obtain ⟨hparams, hslots, hsizes, -, -, -, -, -, hraised⟩ := h
  have hring : ringUsable (s.takeFault who c) ≠ true := by simp [ringUsable_iff]
  have hcode : faultCode c ≠ 0 ∧ faultCode c ∈ raisedCodes := by revert hc; cases c <;> decide
  have hfault : (s.takeFault who c).FaultOk := by
    simp only [State.FaultOk, State.takeFault_fault, State.takeFault_lstate]
    split <;> simp_all
  exact ⟨by simpa [State.ParamsOk] using hparams, by simpa [State.SlotsOk] using hslots,
    by simpa [State.SizesOk] using hsizes, (absurd · hring), (absurd · hring), (absurd · hring), (absurd · hring),
    hfault⟩

theorem inv_claimEmpty {s : State} (hroom : s.count ≠ s.params.n) (h : s.Inv) :
    State.Inv { s with pclaim := true } := by
  obtain ⟨hparams, hslots, hsizes, hcursors, hclaims, hrest⟩ := h
  refine ⟨hparams, hslots, hsizes, hcursors, fun hring => ?_, hrest⟩
  obtain ⟨-, -, hcount, -⟩ := hcursors hring
  obtain ⟨-, hcclaim, hcwait⟩ := hclaims hring
  exact ⟨fun _ => lt_of_le_of_ne hcount hroom, hcclaim, hcwait⟩

theorem inv_claimFull {s : State} (hfull : s.count ≠ 0) (h : s.Inv) : State.Inv { s with cclaim := true } := by
  obtain ⟨hparams, hslots, hsizes, hcursors, hclaims, hrest⟩ := h
  refine ⟨hparams, hslots, hsizes, hcursors, fun hring => ?_, hrest⟩
  obtain ⟨hpclaim, -, hcwait⟩ := hclaims hring
  exact ⟨hpclaim, fun _ => Nat.one_le_iff_ne_zero.2 hfull, hcwait⟩

theorem inv_hold {s : State} {timeout : Word32} (htimeout : timeout ≠ immediateTimeout) (h : s.Inv) :
    (s.hold timeout).Inv := by
  obtain ⟨hparams, hslots, hsizes, hcursors, hclaims, hrest⟩ := h
  refine ⟨hparams, hslots, hsizes, hcursors, fun hring => ?_, hrest⟩
  obtain ⟨hpclaim, hcclaim, -⟩ := hclaims hring
  exact ⟨hpclaim, hcclaim, fun _ => htimeout⟩

/-- The end of a hold, with the claim (completion) or without (expiry). -/
theorem inv_endHold {s : State} (h : s.Inv) : State.Inv { s with cwait := false } := by
  obtain ⟨hparams, hslots, hsizes, hcursors, hclaims, hrest⟩ := h
  refine ⟨hparams, hslots, hsizes, hcursors, fun hring => ?_, hrest⟩
  obtain ⟨hpclaim, hcclaim, -⟩ := hclaims hring
  exact ⟨hpclaim, hcclaim, nofun⟩

theorem inv_putFrame {s : State} {i : Nat} {f : InternalFrame} (h : s.Inv) : (s.putFrame i f).Inv := by
  obtain ⟨hparams, hslots, hsizes, hcursors, hclaims, hpublished, hrest⟩ := h
  refine ⟨hparams, putFrame_wf hslots, sizesOk_putFrame hsizes, hcursors, hclaims, fun hring k hk => ?_, hrest⟩
  rw [putFrame_sizeAt]
  exact hpublished hring k hk

theorem published_sizeAt {s : State} {z : Byte} (hin : s.wr < s.slots.length) :
    (s.published z).sizeAt s.wr = some z := putSize_sizeAt hin

theorem published_sizeAt_other {s : State} {z : Byte} {j : Nat} (h : j ≠ s.wr) :
    (s.published z).sizeAt j = s.sizeAt j := putSize_sizeAt_other h

/-- R165: the write position moves on as COUNT grows. -/
theorem bump_of_next {x y k n : Nat} (h : x = (y + k) % n) : (x + 1) % n = (y + (k + 1)) % n := by
  rw [h, Nat.mod_add_mod, Nat.add_assoc]

/-- R165: the read position moves on as COUNT falls. -/
theorem bump_add_pred {y k n : Nat} (h : 1 ≤ k) : ((y + 1) % n + (k - 1)) % n = (y + k) % n := by
  rw [Nat.mod_add_mod, Nat.add_assoc, Nat.add_sub_cancel' h]

theorem inv_published {s : State} {z : Byte} (hclaim : s.pclaim = true) (hz : sizeAccepted z = true)
    (hin : s.wr < s.slots.length) (h : s.Inv) : (s.published z).Inv := by
  obtain ⟨hparams, hslots, hsizes, hcursors, hclaims, hpublished, hrest⟩ := h
  refine ⟨hparams, putSize_wf hslots, sizesOk_putSize hz hsizes, fun hring => ?_, fun hring => ?_,
    fun hring k hk => ?_, hrest⟩ <;>
    obtain ⟨hwr, hrd, hcount, hpos⟩ := hcursors hring <;> obtain ⟨hpclaim, hcclaim, hcwait⟩ := hclaims hring
  · exact ⟨Nat.mod_lt _ hparams.1, hrd, hpclaim hclaim, bump_of_next hpos⟩
  · exact ⟨nofun, fun hc => (hcclaim hc).trans (Nat.le_succ _), hcwait⟩
  · change (s.published z).sizeAt ((s.rd + k) % s.params.n) ≠ none
    by_cases hj : (s.rd + k) % s.params.n = s.wr
    · simp [hj, published_sizeAt hin]
    · rw [published_sizeAt_other hj]
      refine hpublished hring k (lt_of_le_of_ne (Nat.le_of_lt_succ hk) ?_)
      rintro rfl
      exact hj hpos.symm

theorem inv_released {s : State} (hclaim : s.cclaim = true) (h : s.Inv) : s.released.Inv := by
  obtain ⟨hparams, hslots, hsizes, hcursors, hclaims, hpublished, hrest⟩ := h
  refine ⟨hparams, hslots, hsizes, fun hring => ?_, fun hring => ?_, fun hring k hk => ?_, hrest⟩ <;>
    obtain ⟨hwr, hrd, hcount, hpos⟩ := hcursors hring <;> obtain ⟨hpclaim, hcclaim, hcwait⟩ := hclaims hring
  · exact ⟨hwr, Nat.mod_lt _ hparams.1, (Nat.sub_le _ _).trans hcount,
      hpos.trans (bump_add_pred (hcclaim hclaim)).symm⟩
  · exact ⟨fun hp => (Nat.sub_le _ _).trans_lt (hpclaim hp), nofun, hcwait⟩
  · change s.sizeAt (((s.rd + 1) % s.params.n + k) % s.params.n) ≠ none
    rw [Nat.mod_add_mod, Nat.add_assoc, Nat.add_comm 1 k]
    exact hpublished hring (k + 1) (Nat.add_lt_of_lt_sub hk)

theorem inv_initialised {s : State} (hstate : s.lstate = .uninit) (h : s.Inv) : s.initialised.Inv := by
  obtain ⟨hparams, -, -, -, -, -, -, hhalted, hraised⟩ := h
  exact ⟨hparams, initialised_wf, by simp [State.SizesOk], fun _ => by simp; exact hparams.1,
    fun _ => by simp, fun _ k hk => by simp at hk, fun _ => by simp, by simpa [hstate] using hhalted, hraised⟩

/-- Nothing is claimed and no consumer is held. -/
theorem lifecycleBusy_eq_false {s : State} :
    lifecycleBusy s = false ↔ s.pclaim = false ∧ s.cclaim = false ∧ s.cwait = false := by
  simp [lifecycleBusy, and_assoc]

/-- R224: the ring is emptied or left as it is. -/
theorem restartFlush_cases (s : State) :
    (s.params.restartFlush = true ∧ s.restartFlush = { s with wr := 0, rd := 0, count := 0 }) ∨ s.restartFlush = s := by
  unfold State.restartFlush
  split
  · exact .inl ⟨‹_›, rfl⟩
  · exact .inr rfl

theorem inv_restartFlush {s : State} (hfree : lifecycleBusy s = false) (h : s.Inv) : s.restartFlush.Inv := by
  obtain ⟨-, hflush⟩ | hflush := restartFlush_cases s
  · obtain ⟨hp, hc, hw⟩ := lifecycleBusy_eq_false.1 hfree
    obtain ⟨hparams, hslots, hsizes, -, -, -, hrest⟩ := h
    rw [hflush]
    exact ⟨hparams, hslots, hsizes, fun _ => ⟨hparams.1, hparams.1, Nat.zero_le _, (Nat.zero_mod _).symm⟩,
      fun _ => by simp [hp, hc, hw], fun _ _ hk => absurd hk (Nat.not_lt_zero _), hrest⟩
  · rwa [hflush]

theorem inv_linkUp {s : State} (fresh : List WireBytes) (hstate : s.lstate = .stopped) (hfree : lifecycleBusy s = false)
    (h : s.Inv) : (s.linkUp fresh).Inv := by
  have hring : ringUsable s.restartFlush = true := by simp [ringUsable_iff, hstate]
  obtain ⟨hparams, hslots, hsizes, hcursors, hclaims, hpublished, -, hhalted, hraised⟩ := inv_restartFlush hfree h
  exact ⟨hparams, hslots, hsizes, fun _ => hcursors hring, fun _ => hclaims hring, fun _ => hpublished hring,
    fun _ => by simp, by simpa [hstate] using hhalted, hraised⟩

theorem inv_linkDown {s : State} (hstate : s.lstate = .ready) (h : s.Inv) : s.linkDown.Inv := by
  have hring : ringUsable s = true := by simp [ringUsable_iff, hstate]
  obtain ⟨hparams, hslots, hsizes, hcursors, hclaims, hpublished, -, hhalted, hraised⟩ := h
  exact ⟨hparams, hslots, hsizes, fun _ => hcursors hring, fun _ => hclaims hring, fun _ => hpublished hring,
    fun _ => by simp, by simpa [hstate] using hhalted, hraised⟩

/-- The invariant reads no port, no stage, no history and no mark. -/
theorem inv_setPort {s : State} {who : Agent} {p : Port} (h : s.Inv) : (s.setPort who p).Inv := by
  cases who <;> exact h

theorem inv_respond {s : State} {who : Agent} {r : Response} (h : s.Inv) : (s.respond who r).Inv :=
  inv_setPort (s := s.log (.response who r)) h

theorem Does.inv {who : Agent} {i : Instr} {d d' : Bool} {s t : State} (hdo : Does who i d d' s t) (h : s.Inv) :
    t.Inv := by
  cases hdo with
  | stage st => exact inv_setPort h
  | mark => exact inv_setPort h
  | log | ask | take | send | name => exact h
  | claimEmpty _ _ hroom => exact inv_claimEmpty hroom h
  | store => exact inv_putFrame h
  | claimFull _ _ hfull => exact inv_claimFull hfull h
  | hold _ _ _ _ htimeout => exact inv_hold htimeout h
  | publish _ hclaim hsize hin => exact inv_published hclaim hsize hin h
  | release _ hclaim => exact inv_released hclaim h
  | setUp _ hstate => exact inv_initialised hstate h
  | linkUp fresh _ hstate hfree => exact inv_linkUp fresh hstate hfree h
  | linkDown _ hstate => exact inv_linkDown hstate h
  | fault hc => exact inv_takeFault hc h

theorem takeMove_inv {m : Move} {s : State} (h : s.Inv) : Ends State.Inv (fun _ => True) (takeMove m s) := by
  have ended : State.Inv { s with cwait := false } := inv_endHold h
  have claimed (hcount : s.count > 0) : State.Inv { s with cwait := false, cclaim := true } :=
    inv_claimFull (s := { s with cwait := false }) (Nat.ne_of_gt hcount) ended
  exact takeMove_ends h (fun _ _ _ _ _ ht => ht.induct (inv_setPort h) fun _ _ _ _ hdo => hdo.inv) (fun _ => h)
    (fun _ _ => h) (fun _ _ _ hcount _ _ => inv_respond (claimed hcount)) fun _ => inv_respond ended

/-- Settles O46: every elementary update of every move keeps the invariant. -/
theorem stepKeepsInvariant : Obligations.StepKeepsInvariant :=
  fun s _ h hstep => (takeMove_inv (s := (nextMove s).2) h).of_next hstep

/-! ## The published frames as a queue (R26, R74, R163) -/

/-- R26: with room in the ring no published slot is the write slot. -/
theorem published_ne_wr {s : State} (h : s.CursorsOk) (hring : ringUsable s = true) (hroom : s.count < s.params.n)
    {k : Nat} (hk : k < s.count) : (s.rd + k) % s.params.n ≠ s.wr := by
  obtain ⟨-, -, -, hpos⟩ := h hring
  intro hsame
  have hmod : s.rd + k ≡ s.rd + s.count [MOD s.params.n] := hsame.trans hpos
  exact hk.ne ((hmod.add_left_cancel' s.rd).eq_of_lt_of_lt (hk.trans hroom) hroom)

theorem queue_putFrame {s : State} {f : InternalFrame} (h : s.CursorsOk) (hring : ringUsable s = true)
    (hroom : s.count < s.params.n) : (s.putFrame s.wr f).queue = s.queue :=
  List.map_congr_left fun _ hk => putFrame_frameAt_other (published_ne_wr h hring hroom (List.mem_range.1 hk))

/-- R153: PUBLISH appends the frame of the write slot. -/
theorem queue_published {s : State} {z : Byte} (hpos : s.wr = (s.rd + s.count) % s.params.n) :
    (s.published z).queue = s.queue ++ [s.frameAt s.wr] := by
  have hframe (j : Nat) : (s.published z).frameAt j = s.frameAt j := putSize_frameAt
  simp [State.queue, List.range_succ, hframe, ← hpos]

/-- R157: RELEASE takes the oldest frame. -/
theorem queue_released {s : State} (hcount : 1 ≤ s.count) :
    s.queue = s.frameAt (s.rd % s.params.n) :: s.released.queue := by
  obtain ⟨m, hm⟩ : ∃ m, s.count = m + 1 := ⟨s.count - 1, by omega⟩
  have hframe (j : Nat) : s.released.frameAt j = s.frameAt j := rfl
  simp [State.queue, List.range_succ_eq_map, hm, hframe, Nat.add_assoc, Nat.add_comm 1]

/-- R224: START empties the queue when the open parameter says so, and else leaves it. -/
theorem queue_linkUp (s : State) (fresh : List WireBytes) :
    (s.params.restartFlush = true ∧ (s.linkUp fresh).queue = []) ∨ (s.linkUp fresh).queue = s.queue := by
  have hqueue : (s.linkUp fresh).queue = s.restartFlush.queue := rfl
  rw [hqueue]
  obtain ⟨hopen, hflush⟩ | hflush := restartFlush_cases s
  · exact .inl ⟨hopen, by rw [hflush]; rfl⟩
  · exact .inr (by rw [hflush])

/-- What may become of the queue in one step. -/
def QueueStep (s t : State) : Prop :=
  t.queue = s.queue ∨ (∃ f, t.queue = s.queue ++ [f]) ∨ (∃ f, s.queue = f :: t.queue) ∨
    (t.queue = [] ∧ s.params.restartFlush = true ∧ s.lstate = .stopped ∧ t.lstate = .ready)

section
variable {who : Agent} {i : Instr} {d : Bool} {s t : State}

/-- An update that is not the operation's one effect leaves the queue and LSTATE alone. -/
theorem Does.queue_eq (h : Does who i d d s t) (hinv : d = false → s.Inv ∧ ringUsable s = true) :
    t.queue = s.queue ∧ t.lstate = s.lstate := by
  cases h with
  | stage => cases who <;> exact ⟨rfl, rfl⟩
  | log | ask | take | send | name | claimEmpty | claimFull | hold => exact ⟨rfl, rfl⟩
  | store _ hclaim =>
    obtain ⟨⟨-, -, -, hcursors, hclaims, -⟩, hring⟩ := hinv rfl
    obtain ⟨hpclaim, -⟩ := hclaims hring
    exact ⟨queue_putFrame hcursors hring (hpclaim hclaim), rfl⟩

theorem Does.queueStep (h : Does who i false true s t) (hinv : s.Inv) (hring : ringUsable s = true) :
    QueueStep s t := by
  obtain ⟨-, -, -, hcursors, hclaims, -⟩ := hinv
  cases h with
  | fault | mark => cases who <;> exact .inl rfl
  | linkDown => exact .inl rfl
  | publish =>
    obtain ⟨-, -, -, hpos⟩ := hcursors hring
    exact .inr (.inl ⟨_, queue_published hpos⟩)
  | release _ hclaim =>
    obtain ⟨-, hcclaim, -⟩ := hclaims hring
    exact .inr (.inr (.inl ⟨_, queue_released (hcclaim hclaim)⟩))
  | setUp _ hstate => simp [ringUsable_iff, hstate] at hring
  | linkUp fresh _ hstate =>
    obtain ⟨hopen, hempty⟩ | hkept := queue_linkUp s fresh
    · exact .inr (.inr (.inr ⟨hempty, hopen, hstate, rfl⟩))
    · exact .inl hkept

/-- A run of one operation changes the queue by its one effect alone. -/
theorem Runs.queueStep (h : Runs who i s d t) (hinv : s.Inv) (hring : ringUsable s = true) :
    t.Inv ∧ (d = false → t.queue = s.queue ∧ t.lstate = s.lstate) ∧ QueueStep s t := by
  induction h with
  | start => exact ⟨hinv, fun _ => ⟨rfl, rfl⟩, .inl rfl⟩
  | @next d d' t u h hdo ih =>
    obtain ⟨hinvt, hsame, hstep⟩ := ih
    have hparams : t.params = s.params := (Reaches.recordsKept ⟨d, h⟩).params
    have hring' (hd : d = false) : ringUsable t = true := by rwa [ringUsable, (hsame hd).2]
    by_cases hd : d = d'
    · subst hd
      obtain ⟨hqueue, hstate⟩ := hdo.queue_eq fun hd => ⟨hinvt, hring' hd⟩
      refine ⟨hdo.inv hinvt, fun hd => ?_, ?_⟩
      · rw [hqueue, hstate]; exact hsame hd
      · rw [QueueStep, hqueue, hstate]; exact hstep
    · obtain ⟨rfl, rfl⟩ : d = false ∧ d' = true := by cases hdo <;> simp_all
      obtain ⟨hqueue, hstate⟩ := hsame rfl
      refine ⟨hdo.inv hinvt, nofun, ?_⟩
      have hmoved := hdo.queueStep hinvt (hring' rfl)
      rwa [QueueStep, hqueue, hstate, hparams] at hmoved
end

theorem takeMove_queueStep {m : Move} {s : State} (hinv : s.Inv) (hring : ringUsable s = true) :
    Ends (QueueStep s) (fun _ => True) (takeMove m s) := by
  have served {who steps pending i t} (h : Reaches who i (s.served who steps pending) t) : QueueStep s t := by
    obtain ⟨d, hr⟩ := h
    have hsame : (s.served who steps pending).queue = s.queue ∧ (s.served who steps pending).lstate = s.lstate := by
      cases who <;> exact ⟨rfl, rfl⟩
    obtain ⟨-, -, hstep⟩ := hr.queueStep (inv_setPort hinv) (by rwa [ringUsable, hsame.2])
    rw [QueueStep, hsame.1, hsame.2] at hstep
    cases who <;> exact hstep
  exact takeMove_ends (.inl rfl) (fun _ _ _ _ _ h => served h) (fun _ => .inl rfl) (fun _ _ => .inl rfl)
    (fun _ _ _ _ _ _ => .inl rfl) fun _ => .inl rfl

/-- Settles O52: a move is a run of one operation, whose one effect is at most one handoff, or leaves the ring alone. -/
theorem publishedFramesAreAQueue : Obligations.PublishedFramesAreAQueue :=
  fun s _ hinv hring hstep => (takeMove_queueStep (s := (nextMove s).2) hinv hring).of_next hstep

/-! ## Who writes which register (R37, R99) -/

/-- The registers and queues of R37's table, and what no operation writes. -/
inductive Register where
  | cfg | link | wr | rd | count | pclaim | cclaim | cwait | ctmo | slots | wireRx | wireTx | fixed

/-- The operations that write a register (R37), primitive by primitive, each with the composite operation that has it as
a step (R190, R192). -/
def Register.WrittenBy (i : Instr) : Register → Prop
  | .cfg => ∃ cfg, i = .start cfg
  | .link => i = .init ∨ (∃ cfg, i = .start cfg) ∨ i = .stop
  | .wr => i = .init ∨ (∃ cfg, i = .start cfg) ∨ (∃ a b, i = .publish a b) ∨ i = .intake
  | .rd => i = .init ∨ (∃ cfg, i = .start cfg) ∨ (∃ a, i = .release a) ∨ ∃ m, i = .receive m
  | .count => i = .init ∨ (∃ cfg, i = .start cfg) ∨ ((∃ a b, i = .publish a b) ∨ i = .intake) ∨
      (∃ a, i = .release a) ∨ ∃ m, i = .receive m
  | .pclaim => i = .init ∨ (i = .claimEmpty ∨ i = .intake) ∨ (∃ a b, i = .publish a b) ∨ i = .intake
  | .cclaim => i = .init ∨ ((∃ a, i = .claimFull a) ∨ ∃ m, i = .receive m) ∨ (∃ a, i = .release a) ∨ ∃ m, i = .receive m
  | .cwait => i = .init ∨ ∃ a, i = .claimFull a
  | .ctmo => ∃ a, i = .claimFull a
  | .slots => i = .init ∨ ((∃ a f, i = .slotWrite a f) ∨ i = .intake) ∨ (∃ a b, i = .publish a b) ∨ i = .intake
  | .wireRx => (∃ cfg, i = .start cfg) ∨ i = .intake
  | .wireTx => ∃ m f, i = .transmit m f
  | .fixed => False

/-- The register holds the same in both states. -/
def Register.Same (s t : State) : Register → Prop
  | .cfg => t.cfg = s.cfg
  | .link => t.link = s.link
  | .wr => t.wr = s.wr
  | .rd => t.rd = s.rd
  | .count => t.count = s.count
  | .pclaim => t.pclaim = s.pclaim
  | .cclaim => t.cclaim = s.cclaim
  | .cwait => t.cwait = s.cwait
  | .ctmo => t.ctmo = s.ctmo
  | .slots => t.slots = s.slots
  | .wireRx => t.env.wireRx = s.env.wireRx
  | .wireTx => t.env.wireTx = s.env.wireTx
  | .fixed => t.params = s.params ∧ t.schedule = s.schedule ∧ t.turn = s.turn ∧ t.transmits = s.transmits

theorem Register.Same.refl (s : State) (r : Register) : r.Same s s := by cases r <;> simp [Register.Same]

theorem Register.Same.trans {s t u : State} {r : Register} (h : r.Same s t) (h' : r.Same t u) : r.Same s u := by
  cases r with
  | fixed =>
    obtain ⟨hparams, hschedule, hturn, htransmits⟩ := h
    obtain ⟨hparams', hschedule', hturn', htransmits'⟩ := h'
    exact ⟨hparams'.trans hparams, hschedule'.trans hschedule, hturn'.trans hturn, htransmits'.trans htransmits⟩
  | _ => exact Eq.trans h' h

section
variable {who : Agent} {i : Instr} {d d' : Bool} {s t : State}

/-- Each elementary update writes registers of its own operation. -/
theorem Does.same (h : Does who i d d' s t) (r : Register) : r.Same s t ∨ r.WrittenBy i := by
  cases h with
  | log | stage | fault | mark => cases r <;> simp [Register.Same]
  | ask hrx htx => cases r <;> simp [Register.Same, hrx, htx]
  | take hi | send hi | name _ hi | claimEmpty hi | store hi | claimFull hi | hold hi | publish hi | release hi
  | setUp hi | linkUp _ hi | linkDown hi => cases r <;> simp [Register.Same, Register.WrittenBy, hi]

theorem Reaches.same (h : Reaches who i s t) {r : Register} (hr : ¬ r.WrittenBy i) : r.Same s t :=
  h.induct (P := fun u => r.Same s u) (.refl s r) fun _ _ _ _ hdo hu => hu.trans ((hdo.same r).resolve_right hr)

theorem Does.port_other (h : Does who i d d' s t) {other : Agent} (hother : other ≠ who) :
    t.port other = s.port other := by
  cases h with
  | stage | fault | mark => exact State.setStage_port_other _ hother _
  | _ => cases other <;> simp

theorem Reaches.port_other (h : Reaches who i s t) {other : Agent} (hother : other ≠ who) :
    t.port other = s.port other :=
  h.induct (P := fun u => u.port other = s.port other) rfl fun _ _ _ _ hdo hu => (hdo.port_other hother).trans hu
end

/-- Settles O55: the table of R37 read for each register. -/
theorem registerWriters : Obligations.RegisterWriters := by
  intro i s t h
  have hreach := (exec_reaches i s).of_next h
  obtain ⟨hparams, hschedule, hturn, htransmits⟩ := hreach.same (r := .fixed) id
  have same (r : Register) (hr : ¬ r.WrittenBy i) := hreach.same hr
  refine ⟨fun _ => same .cfg ?_, fun _ _ _ => same .link ?_, fun _ _ _ _ => same .wr ?_, fun _ _ _ _ => same .rd ?_,
    fun _ _ _ _ _ _ => same .count ?_, fun _ _ _ _ => same .pclaim ?_, fun _ _ _ _ => same .cclaim ?_,
    fun _ _ => same .cwait ?_, fun _ => same .ctmo ?_, fun _ _ _ _ => same .slots ?_, fun _ _ => same .wireRx ?_,
    fun _ => same .wireTx ?_, hparams, hschedule, hturn, htransmits, fun _ => hreach.port_other⟩
  all_goals simp_all [Register.WrittenBy]

/-! ## Stores (R69, R71) -/

section
variable {who : Agent} {i : Instr} {d d' : Bool} {s t : State} {j : Nat}

/-- The one effect is not undone. -/
theorem Does.of_false (h : Does who i d false s t) : d = false := by
  cases h <;> rfl

/-- An update that is not the operation's one effect leaves the write position. -/
theorem Does.wr_eq (h : Does who i d false s t) : t.wr = s.wr := by
  cases h <;> simp

/-- What an update stores, it stores at the write position. -/
theorem Does.slot_other (h : Does who i d d' s t) (hi : i ≠ .init) (hj : d = false → j ≠ s.wr) :
    t.slots[j]? = s.slots[j]? := by
  cases h with
  | store | publish => simp [(hj rfl).symm]
  | setUp hinit => exact absurd hinit hi
  | _ => simp

theorem Runs.slot_other (h : Runs who i s d t) (hi : i ≠ .init) (hj : j ≠ s.wr) :
    (d = false → t.wr = s.wr) ∧ t.slots[j]? = s.slots[j]? := by
  induction h with
  | start => exact ⟨fun _ => rfl, rfl⟩
  | next _ hdo ih =>
    obtain ⟨hwr, hslot⟩ := ih
    refine ⟨?_, (hdo.slot_other hi fun hd => by rwa [hwr hd]).trans hslot⟩
    rintro rfl
    obtain rfl := hdo.of_false
    exact hdo.wr_eq.trans (hwr rfl)
end

/-- Settles O56: an operation stores before its one effect, so at the write position it started from. -/
theorem storesTouchOneSlot : Obligations.StoresTouchOneSlot := by
  intro i s t j hi h hj
  obtain ⟨d, hr⟩ := (exec_reaches i s).of_next h
  obtain ⟨-, hslot⟩ := hr.slot_other hi hj
  simp only [State.frameAt, State.sizeAt, hslot, and_self]

/-! ## The hold (R158) -/

section
variable {who : Agent} {i : Instr} {d d' : Bool} {s t : State}

theorem Does.initialised_kept (h : Does who i d d' s t) (hs : s.lstate ≠ .uninit) : t.lstate ≠ .uninit := by
  cases h <;> simp [hs]

/-- After INIT only the consumer's own operations write CWAIT and CTMO. -/
theorem Does.hold_kept (h : Does who i d d' s t) (hs : s.lstate ≠ .uninit) (hwho : who ≠ .c) :
    t.cwait = s.cwait ∧ t.ctmo = s.ctmo := by
  cases h with
  | hold _ hc => exact absurd hc hwho
  | setUp _ hstate => exact absurd hstate hs
  | _ => simp

/-- The consumer is held as it was in `s`. -/
def HeldAs (s t : State) : Prop :=
  t.lstate ≠ .uninit ∧ t.cwait = s.cwait ∧ t.ctmo = s.ctmo ∧ t.portC = s.portC

theorem Reaches.heldAs (h : Reaches who i s t) (hs : s.lstate ≠ .uninit) (hwho : who ≠ .c) : HeldAs s t := by
  refine h.induct ⟨hs, rfl, rfl, rfl⟩ fun _ _ u v hdo ⟨hu, hcwait, hctmo, hport⟩ => ?_
  obtain ⟨hcwait', hctmo'⟩ := hdo.hold_kept hu hwho
  exact ⟨hdo.initialised_kept hu, hcwait'.trans hcwait, hctmo'.trans hctmo,
    (hdo.port_other (Ne.symm hwho)).trans hport⟩
end

theorem agentTurn_heldAs {who : Agent} {steps : Nat} {s : State} (hs : s.lstate ≠ .uninit) (hheld : s.cwait = true)
    (hidle : s.portC.stage = .idle) : Ends (HeldAs s) (fun _ => True) (agentTurn who steps s) := by
  by_cases hwho : who = .c
  · subst hwho
    rw [agentTurn_held (who := .c) (s := s) hidle ⟨rfl, by simp [consumerHeld, hheld, hs]⟩]
    exact ends_next.2 ⟨hs, rfl, rfl, rfl⟩
  · refine ends_mono (fun t ⟨pending, i, ht⟩ => ?_) (agentTurn_reaches who steps s)
    obtain ⟨hlive, hcwait, hctmo, hport⟩ := ht.heldAs (by simpa [State.served] using hs) hwho
    refine ⟨hlive, by simpa [State.served] using hcwait, by simpa [State.served] using hctmo, hport.trans ?_⟩
    exact State.setPort_port_other _ (Ne.symm hwho) _

theorem takeMove_heldAs {m : Move} {s : State} (hs : s.lstate ≠ .uninit) (hheld : s.cwait = true)
    (hidle : s.portC.stage = .idle) (hcomplete : m ≠ .complete) (hexpire : m ≠ .expire) :
    Ends (HeldAs s) (fun _ => True) (takeMove m s) := by
  have hstay : HeldAs s s := ⟨hs, rfl, rfl, rfl⟩
  cases m with
  | agent who steps => exact agentTurn_heldAs hs hheld hidle
  | thread k => exact ends_next.2 hstay
  | inject w => exact injectFrame_ends hstay fun _ => hstay
  | lose k => exact loseFrame_ends hstay fun _ _ _ => hstay
  | complete => exact absurd rfl hcomplete
  | expire => exact absurd rfl hexpire

/-- Settles O59: the consumer's turn is no step, and no other agent's operation writes what a hold is. -/
theorem holdEndsOnlyByItsMoves : Obligations.HoldEndsOnlyByItsMoves := by
  intro s t hring hheld hidle hcomplete hexpire h
  have hs : s.lstate ≠ .uninit := by rintro hs; simp [ringUsable_iff, hs] at hring
  obtain ⟨-, hcwait, hctmo, hport⟩ :=
    (takeMove_heldAs (s := (nextMove s).2) hs hheld hidle hcomplete hexpire).of_next h
  exact ⟨hcwait.trans hheld, hctmo, hport⟩

/-! ## The states of a slot (R26, R28, R164) -/

theorem slotOffset_lt {s : State} (h : 1 ≤ s.params.n) (j : Nat) : slotOffset s j < s.params.n := Nat.mod_lt _ h

theorem slotOffset_rd (s : State) : slotOffset s s.rd = 0 := by
  simp [slotOffset]

/-- The offset is the distance: going it from the read position leads back to the slot. -/
theorem rd_add_slotOffset {s : State} {j : Nat} (hrd : s.rd < s.params.n) (hj : j < s.params.n) :
    (s.rd + slotOffset s j) % s.params.n = j := by
  have hsum : s.rd + (j + s.params.n - s.rd) = j + s.params.n := by omega
  rw [slotOffset, Nat.add_mod_mod, hsum, Nat.add_mod_right, Nat.mod_eq_of_lt hj]

/-- The slot at distance `k` from the read position has offset `k`. -/
theorem slotOffset_of_eq {s : State} {j k : Nat} (hrd : s.rd < s.params.n) (hk : k < s.params.n)
    (hj : j = (s.rd + k) % s.params.n) : slotOffset s j = k := by
  have hlt : j < s.params.n := hj ▸ Nat.mod_lt _ (by omega)
  have hmod : s.rd + slotOffset s j ≡ s.rd + k [MOD s.params.n] := (rd_add_slotOffset hrd hlt).trans hj
  exact (hmod.add_left_cancel' s.rd).eq_of_lt_of_lt (slotOffset_lt (by omega) j) hk

theorem slotOffset_inj {s : State} {i j : Nat} (hrd : s.rd < s.params.n) (hi : i < s.params.n) (hj : j < s.params.n)
    (h : slotOffset s i = slotOffset s j) : i = j := by
  rw [← rd_add_slotOffset hrd hi, h, rd_add_slotOffset hrd hj]

/-- R28: what a slot's state depends on. -/
theorem slotState_congr {s t : State} {j : Nat} (hdrained : t.cclaim = true ∧ j = t.rd ↔ s.cclaim = true ∧ j = s.rd)
    (hpublished : slotOffset t j < t.count ↔ slotOffset s j < s.count)
    (hfilled : t.pclaim = true ∧ j = t.wr ↔ s.pclaim = true ∧ j = s.wr) : slotState t j = slotState s j :=
  if_congr hdrained rfl (if_congr hpublished rfl (if_congr hfilled rfl rfl))

section
variable {s : State}

/-- What the invariant says of the cursors and the claims of a ring that is set up (R26, R28). -/
structure RingOk (s : State) : Prop where
  wr : s.wr < s.params.n
  rd : s.rd < s.params.n
  count : s.count ≤ s.params.n
  pos : s.wr = (s.rd + s.count) % s.params.n
  room : s.pclaim = true → s.count < s.params.n
  full : s.cclaim = true → 1 ≤ s.count

theorem State.Inv.ringOk (h : s.Inv) (hring : ringUsable s = true) : RingOk s := by
  obtain ⟨-, -, -, hcursors, hclaims, -⟩ := h
  obtain ⟨hwr, hrd, hcount, hpos⟩ := hcursors hring
  obtain ⟨hroom, hfull, -⟩ := hclaims hring
  exact ⟨hwr, hrd, hcount, hpos, hroom, hfull⟩

/-- With room in the ring the write slot is the one right behind the published ones. -/
theorem RingOk.slotOffset_wr (h : RingOk s) (hroom : s.count < s.params.n) : slotOffset s s.wr = s.count :=
  slotOffset_of_eq h.rd hroom h.pos

theorem RingOk.wr_ne_rd (h : RingOk s) (hroom : s.count < s.params.n) (hfull : 1 ≤ s.count) : s.wr ≠ s.rd := by
  intro hsame
  have hoffset := h.slotOffset_wr hroom
  rw [hsame, slotOffset_rd] at hoffset
  omega

/-- Only the write slot, of those not published, is right behind the published ones. -/
theorem RingOk.slotOffset_ne_count (h : RingOk s) (hroom : s.count < s.params.n) {j : Nat} (hj : j < s.params.n)
    (hne : j ≠ s.wr) : slotOffset s j ≠ s.count := fun hoffset =>
  hne (slotOffset_inj h.rd hj h.wr (hoffset.trans (h.slotOffset_wr hroom).symm))

theorem slotState_draining (hcclaim : s.cclaim = true) : slotState s s.rd = .draining := by
  simp [slotState, hcclaim]

theorem slotState_full (hcclaim : s.cclaim = false) (hcount : 1 ≤ s.count) : slotState s s.rd = .full := by
  simp [slotState, hcclaim, slotOffset_rd]
  omega

/-- The state of the write slot with room in the ring: being filled when it is claimed, and else empty. -/
theorem RingOk.slotState_wr (h : RingOk s) (hroom : s.count < s.params.n) :
    slotState s s.wr = if s.pclaim = true then .filling else .empty := by
  have hdrained : ¬ (s.cclaim = true ∧ s.wr = s.rd) := fun ⟨hc, hsame⟩ => h.wr_ne_rd hroom (h.full hc) hsame
  simp [slotState, hdrained, h.slotOffset_wr hroom]

/-- Settles O50: the write slot's offset is COUNT, the read slot's is 0. -/
theorem slotStatesExclusive : Obligations.SlotStatesExclusive := by
  intro s hinv hring
  have h := hinv.ringOk hring
  refine ⟨fun hp hc => h.wr_ne_rd (h.room hp) (h.full hc), fun hp => ?_, fun hc => ?_, fun hcount hc => ?_⟩
  · rw [h.slotOffset_wr (h.room hp), h.slotState_wr (h.room hp), if_pos hp]
    exact ⟨lt_irrefl _, rfl⟩
  · rw [slotOffset_rd]
    exact ⟨h.full hc, slotState_draining hc⟩
  · exact slotState_full hc hcount

/-! ## The four handoffs -/

/-- Slot `x` goes from one state to another and every other slot stays as it is (R164). -/
def SlotMoves (s t : State) (x : Nat) (a b : SlotState) : Prop :=
  slotState s x = a ∧ slotState t x = b ∧ ∀ j < s.params.n, j ≠ x → slotState t j = slotState s j

/-- What comes after a handoff and leaves the cursors and the claims alone changes no slot's state. -/
theorem slotMoves_respond {t : State} {x : Nat} {a b : SlotState} {who : Agent} {r : Response}
    (h : SlotMoves s t x a b) : SlotMoves s (t.respond who r) x a b := by
  have hsame (j : Nat) : slotState (t.respond who r) j = slotState t j :=
    slotState_congr (by simp) (by simp [slotOffset]) (by simp)
  simpa only [SlotMoves, hsame] using h

/-- R151: CLAIM_EMPTY takes the write slot from EMPTY to FILLING. -/
theorem slotMoves_claimEmpty (h : RingOk s) (hroom : s.count < s.params.n) (hfree : s.pclaim = false) :
    SlotMoves s { s with pclaim := true } s.wr .empty .filling := by
  have h' : RingOk { s with pclaim := true } := ⟨h.wr, h.rd, h.count, h.pos, fun _ => hroom, h.full⟩
  exact ⟨by rw [h.slotState_wr hroom, hfree]; rfl, h'.slotState_wr hroom,
    fun j _ hne => slotState_congr .rfl .rfl (by simp [hne])⟩

/-- R153: PUBLISH takes it from FILLING to FULL. -/
theorem slotMoves_published (h : RingOk s) (hclaim : s.pclaim = true) (z : Byte) :
    SlotMoves s (s.published z) s.wr .filling .full := by
  have hroom := h.room hclaim
  have hoffset (j : Nat) : slotOffset (s.published z) j = slotOffset s j := rfl
  have hdrained : ¬ (s.cclaim = true ∧ s.wr = s.rd) := fun ⟨hc, hsame⟩ => h.wr_ne_rd hroom (h.full hc) hsame
  refine ⟨by rw [h.slotState_wr hroom, if_pos hclaim], ?_, fun j hj hne => ?_⟩
  · simp [slotState, hoffset, hdrained, h.slotOffset_wr hroom]
  · have hbehind := h.slotOffset_ne_count hroom hj hne
    have hpublished : slotOffset s j < s.count + 1 ↔ slotOffset s j < s.count := by omega
    exact slotState_congr .rfl hpublished (by simp [hne])

/-- R156: CLAIM_FULL takes the read slot from FULL to DRAINING. -/
theorem slotMoves_claimFull (hcount : 1 ≤ s.count) (hfree : s.cclaim = false) :
    SlotMoves s { s with cclaim := true } s.rd .full .draining := by
  exact ⟨slotState_full hfree hcount, slotState_draining rfl,
    fun j _ hne => slotState_congr (by simp [hne]) .rfl .rfl⟩

/-- The read position one further on, every other slot is one nearer. -/
theorem slotOffset_released {j : Nat} (hrd : s.rd < s.params.n) (hj : j < s.params.n) (hne : j ≠ s.rd) :
    slotOffset s.released j + 1 = slotOffset s j := by
  have hn : 1 ≤ s.params.n := by omega
  have hrd' : s.released.rd < s.released.params.n := Nat.mod_lt _ hn
  have hj' := rd_add_slotOffset hrd' hj
  rw [State.released_rd, State.released_params, Nat.mod_add_mod, Nat.add_assoc, Nat.add_comm 1] at hj'
  have hpos : slotOffset s.released j + 1 < s.params.n := by
    have hlt : slotOffset s.released j < s.params.n := slotOffset_lt (s := s.released) hn j
    rcases Nat.lt_or_ge (slotOffset s.released j + 1) s.params.n with h | h
    · exact h
    · have hlast : slotOffset s.released j + 1 = s.params.n := by omega
      rw [hlast, Nat.add_mod_right, Nat.mod_eq_of_lt hrd] at hj'
      exact absurd hj'.symm hne
  exact (slotOffset_of_eq hrd hpos hj'.symm).symm

/-- The slot just read is the farthest. -/
theorem slotOffset_released_rd (hrd : s.rd < s.params.n) : slotOffset s.released s.rd = s.params.n - 1 := by
  have hn : 1 ≤ s.params.n := by omega
  refine slotOffset_of_eq (s := s.released) (Nat.mod_lt _ hn) (Nat.sub_lt hn Nat.one_pos) ?_
  rw [State.released_rd, State.released_params, bump_add_pred hn, Nat.add_mod_right, Nat.mod_eq_of_lt hrd]

/-- R157: RELEASE takes it from DRAINING to EMPTY. -/
theorem slotMoves_released (h : RingOk s) (hclaim : s.cclaim = true) :
    SlotMoves s s.released s.rd .draining .empty := by
  have hcount := h.full hclaim
  refine ⟨slotState_draining hclaim, ?_, fun j hj hne => ?_⟩
  · have hfar : ¬ s.params.n - 1 < s.count - 1 := by have := h.count; omega
    have hother : ¬ (s.pclaim = true ∧ s.rd = s.wr) := fun ⟨hp, hsame⟩ => h.wr_ne_rd (h.room hp) hcount hsame.symm
    simp [slotState, slotOffset_released_rd h.rd, hfar, hother]
  · have hnearer := slotOffset_released h.rd hj hne
    have hpublished : slotOffset s.released j < s.count - 1 ↔ slotOffset s j < s.count := by omega
    exact slotState_congr (by simp [hne]) hpublished .rfl
end

/-! ## The handoff operations -/

section
variable {s : State}

/-- What holds after a refusal, after NotInitialized and after the body holds after an operation R150 lists. -/
theorem request_needInit_ends {P : State → Prop} {i : Instr} {k : Agent → State → Result}
    (hrefuse : P ((s.log (.request s.turn.agent i)).markRefused s.turn.agent))
    (hraise : P ((s.log (.request s.turn.agent i)).takeFault s.turn.agent .notInitialized))
    (hk : Ends P (fun _ => True) (k s.turn.agent (s.log (.request s.turn.agent i)))) :
    Ends P (fun _ => True) (request i (fun who => needInit who (k who)) s) :=
  request_ends hrefuse fun _ _ => needInit_ends hraise fun _ => hk

theorem exec_claimEmpty_slots (h : RingOk s) :
    Ends (fun t => t.pclaim = s.pclaim ∨ SlotMoves s t s.wr .empty .filling) (fun _ => True) (exec .claimEmpty s) := by
  rw [exec, execClaimEmpty]
  refine request_needInit_ends (.inl (by simp)) (.inl (by simp)) (claimEmpty_ends (fun _ => .inl (by simp))
    (fun _ _ => ends_respond.2 (.inl (by simp))) fun hfree hroom => ends_respond.2 (.inr ?_))
  exact slotMoves_respond (slotMoves_claimEmpty h (lt_of_le_of_ne h.count hroom) hfree)

theorem exec_publish_slots (h : RingOk s) (slot size : Byte) :
    Ends (fun t => t.count = s.count ∨ SlotMoves s t s.wr .filling .full) (fun _ => True)
      (exec (.publish slot size) s) := by
  rw [exec, execPublish]
  refine request_needInit_ends (.inl (by simp)) (.inl (by simp)) (publish_ends (fun _ _ => .inl (by simp))
    (fun hclaim _ _ _ => ends_respond.2 (.inr ?_)) fun _ _ => trivial)
  exact slotMoves_respond (slotMoves_published h hclaim size)

theorem exec_claimFull_slots (timeout : Word32) :
    Ends (fun t => t.cclaim = s.cclaim ∨ SlotMoves s t s.rd .full .draining) (fun _ => True)
      (exec (.claimFull timeout) s) := by
  rw [exec, execClaimFull]
  refine request_needInit_ends (.inl (by simp)) (.inl (by simp)) (claimFull_ends (fun _ => .inl (by simp))
    (fun _ hfree hcount _ => ends_respond.2 (.inr ?_)) (fun _ _ _ => ends_respond.2 (.inl (by simp)))
    (fun _ _ _ => .inl (by simp)) fun _ _ => trivial)
  exact slotMoves_respond (slotMoves_claimFull (Nat.one_le_iff_ne_zero.2 hcount) hfree)

theorem exec_release_slots (h : RingOk s) (slot : Byte) :
    Ends (fun t => t.count = s.count ∨ SlotMoves s t s.rd .draining .empty) (fun _ => True)
      (exec (.release slot) s) := by
  rw [exec, execRelease]
  refine request_needInit_ends (.inl (by simp)) (.inl (by simp)) (release_ends (fun _ _ => .inl (by simp))
    fun hclaim _ => ends_respond.2 (.inr ?_))
  exact slotMoves_respond (slotMoves_released h hclaim)
end

/-- Settles O51: an operation that has had its effect has moved its one slot. -/
theorem handoffMovesOneSlot : Obligations.HandoffMovesOneSlot := by
  intro s hinv hring
  have h := hinv.ringOk hring
  exact ⟨fun t ht hp hs => ((exec_claimEmpty_slots h).of_next ht).resolve_left (by simp [hp, hs]),
    fun t slot size ht hcount => ((exec_publish_slots h slot size).of_next ht).resolve_left (by simp [hcount]),
    fun t timeout ht hc hs => ((exec_claimFull_slots timeout).of_next ht).resolve_left (by simp [hc, hs]),
    fun t slot ht hcount => ((exec_release_slots h slot).of_next ht).resolve_left hcount⟩

/-! ## Placed requests and the environment's moves (R29, R40, R260, R269) -/

/-- Settles O39: an idle agent that is no held consumer serves its next request. -/
theorem stepRunsDecodedRequest : Obligations.StepRunsDecodedRequest :=
  fun _ _ _ _ _ _ _ => step_runs

/-- R257: the port a request is placed on may issue it. -/
theorem mayIssue_placingPort {r : Request} {i : Instr} (h : decode r = .ok i) : mayIssue (placingPort r) i = true := by
  rw [placingPort, h]
  cases i <;> rfl

theorem decodeTableWord_eq_some {nbits w : Nat} {i : Instr} (h : decodeTableWord nbits w = some i) :
    decode (requestOfWord (w % 2 ^ nbits)) = .ok i := by
  unfold decodeTableWord at h
  split at h
  · next hr => rwa [hr, Except.ok.injEq, ← Option.some.injEq]
  · exact nomatch h

/-- Log 6: the placed request is the one the next step runs. -/
theorem step_placeRequest {s : State} {r : Request} {i : Instr} (h : decode r = .ok i) :
    step (placeRequest r s) = exec i (State.setPort { s with
      cwait := if placingPort r = .c then false else s.cwait
      turn := ⟨placingPort r, longestOperation⟩ } (placingPort r) { s.port (placingPort r) with stage := .idle }) := by
  have hport : (placeRequest r s).port (placingPort r) = ⟨r :: (s.port (placingPort r)).pending, .idle⟩ := by
    unfold placeRequest
    cases placingPort r <;> rfl
  have hfree : ¬ (placingPort r = .c ∧ consumerHeld (placeRequest r s) = true) := by
    rintro ⟨hc, hheld⟩
    simp [consumerHeld, placeRequest, hc] at hheld
  rw [step_runs rfl hport hfree h, placeRequest]
  cases placingPort r <;> rfl

/-- Settles O41, by the placing of a request on the port of its first issuer. -/
theorem placedWordRuns : Obligations.PlacedWordRuns :=
  fun _ _ _ _ h => ⟨_, mayIssue_placingPort (decodeTableWord_eq_some h), step_placeRequest (decodeTableWord_eq_some h)⟩

theorem injectFrame_linked {s : State} {w : WireBytes} (h : s.link = true) :
    injectFrame w s = .next (State.log { s with env := { s.env with wireRx := s.env.wireRx ++ [w] } } (.injected w)) :=
  if_pos h

theorem injectFrame_unlinked {s : State} {w : WireBytes} (h : s.link = false) : injectFrame w s = .next s :=
  if_neg (by simp [h])

theorem loseFrame_unlinked {s : State} {k : Nat} {w : WireBytes} (h : s.link = false) (hk : s.env.wireRx[k]? = some w) :
    loseFrame k s =
      .next (State.log { s with env := { s.env with wireRx := s.env.wireRx.eraseIdx k } } (.lost w)) := by
  simp [loseFrame, h, hk]

theorem loseFrame_stays {s : State} {k : Nat} (h : s.link = true ∨ s.env.wireRx.length ≤ k) :
    loseFrame k s = .next s := by
  unfold loseFrame
  split
  · next w hk =>
    obtain ⟨hlt, -⟩ := List.getElem?_eq_some_iff.1 hk
    have hlink : s.link = true := h.resolve_right (by omega)
    exact if_neg (by simp [hlink])
  · rfl

/-- Settles O43: each environment move where it is enabled and where it is not (log 13). -/
theorem environmentMoves : Obligations.EnvironmentMoves := by
  refine fun s w k rest =>
    ⟨fun hs => ⟨fun hlink => ?_, fun hlink => ?_⟩, fun hs => ⟨fun hlink hk => ?_, fun hstay => ?_⟩⟩
  · rw [step_of_schedule hs]; exact injectFrame_linked hlink
  · rw [step_of_schedule hs]; exact injectFrame_unlinked hlink
  · rw [step_of_schedule hs]; exact loseFrame_unlinked hlink hk
  · rw [step_of_schedule hs]; exact loseFrame_stays hstay

/-! ## IS_RX_NONEMPTY (R196) -/

/-- R196: in READY IS_RX_NONEMPTY of mailbox 0 answers RX_NONEMPTY. -/
theorem exec_isRxNonempty_ready {s : State} (hwho : s.turn.agent = .c) (hready : s.lstate = .ready) :
    exec (.isRxNonempty 0) s =
      .next ((s.log (.request .c (.isRxNonempty 0))).respond .c (.bool (rxNonempty s))) := by
  have hlive : s.lstate ≠ .halted := by simp [hready]
  have hport : mayIssue s.turn.agent (.isRxNonempty 0) = true := by rw [hwho]; decide
  rw [exec, execIsRxNonempty, request_runs hlive hport, hwho, needReady_runs (by simpa using hready), needMailbox_zero]
  rfl

/-- Settles O32, by the check of READY and the mailbox check, which both pass. -/
theorem rxNonemptyReportsCount : Obligations.RxNonemptyReportsCount :=
  fun _ => exec_isRxNonempty_ready

/-! ## START (R221) -/

section
variable {s : State} {cfg : CfgName}

theorem needInit_faults {who : Agent} {k : State → Result} (h : s.lstate = .uninit) :
    needInit who k s = .next (s.takeFault who .notInitialized) := by
  simp [needInit, h, raise]

/-- START outside HALTED, on the port it belongs to. -/
theorem exec_start (hwho : s.turn.agent = .a) (hlive : s.lstate ≠ .halted) :
    exec (.start cfg) s =
      needInit .a (fun s => if s.lstate = .ready then respond .a .ok s else openLink .a cfg s)
        (s.log (.request .a (.start cfg))) := by
  have hport : mayIssue s.turn.agent (.start cfg) = true := by rw [hwho]; rfl
  rw [exec, execStart, request_runs hlive hport, hwho]

theorem askOpen_eq {k : OpenAnswer → State → Result} {x : OpenAnswer} {opens : List OpenAnswer} {draws : Nat}
    (hdraw : drawFrom s.env.opens (Config.freeOpen s.cfg) s.draws = (x, opens, draws)) :
    askOpen k s = k x (State.log { s with env := { s.env with opens := opens }, draws := draws } (.opening s.cfg)) := by
  simp only [askOpen, hdraw]

/-- START from STOPPED comes to the checks of R221. -/
theorem exec_start_stopped (hwho : s.turn.agent = .a) (hstopped : s.lstate = .stopped) :
    exec (.start cfg) s = openLink .a cfg (s.log (.request .a (.start cfg))) := by
  rw [exec_start hwho (by simp [hstopped]), needInit_runs (by simp [hstopped]), if_neg (by simp [hstopped])]

theorem openLink_busy {who : Agent} (h : lifecycleBusy s = true) :
    openLink who cfg s = .next (s.takeFault who .concurrentLifecycle) := by
  rw [openLink, if_pos h, raise]

/-- What START does with an answer of `env.open` (R221, R241). -/
def opened (who : Agent) (x : OpenAnswer) (s : State) : State :=
  match x with
  | .ok fresh => (s.linkUp fresh).respond who .ok
  | .openFailed => s.takeFault who .openFailure
  | .resolveFailed => s.takeFault who .resolveFailure
  | .bindFailed => s.takeFault who .bindFailure

/-- R221: with nothing claimed or held the name is stored and handed to the environment, whose answer decides. -/
theorem openLink_free {who : Agent} {x : OpenAnswer} {opens : List OpenAnswer} {draws : Nat}
    (hfree : lifecycleBusy s = false)
    (hdraw : drawFrom s.env.opens (Config.freeOpen (some cfg)) s.draws = (x, opens, draws)) :
    openLink who cfg s = .next (opened who x (State.log
      { s with cfg := some cfg, env := { s.env with opens := opens }, draws := draws } (.opening (some cfg)))) := by
  rw [openLink, hfree, if_neg Bool.false_ne_true, askOpen_eq (s := { s with cfg := some cfg }) hdraw]
  cases x <;> rfl

/-- START from STOPPED with nothing claimed or held. -/
theorem exec_start_opens {x : OpenAnswer} {opens : List OpenAnswer} {draws : Nat} (hwho : s.turn.agent = .a)
    (hstopped : s.lstate = .stopped) (hfree : lifecycleBusy s = false)
    (hdraw : drawFrom s.env.opens (Config.freeOpen (some cfg)) s.draws = (x, opens, draws)) :
    exec (.start cfg) s = .next (opened .a x (((State.log
      { s with cfg := some cfg, env := { s.env with opens := opens }, draws := draws }
        (.request .a (.start cfg))).log (.opening (some cfg))))) := by
  rw [exec_start_stopped hwho hstopped]
  exact openLink_free (s := s.log (.request .a (.start cfg))) hfree hdraw

/-- R224: the registers a fresh link leaves, by the open parameter. -/
theorem State.linkUp_eq (s : State) (fresh : List WireBytes) :
    s.linkUp fresh = { s with
      link := true
      lstate := .ready
      wr := if s.params.restartFlush = true then 0 else s.wr
      rd := if s.params.restartFlush = true then 0 else s.rd
      count := if s.params.restartFlush = true then 0 else s.count
      env := { s.env with wireRx := s.env.wireRx ++ fresh }
      history := .fresh fresh :: s.history } := by
  unfold State.linkUp State.restartFlush
  split <;> rfl
end

/-- Settles O16: the checks of R221 in their order, then the four answers of the environment. -/
theorem startOpensLink : Obligations.StartOpensLink := by
  intro s cfg x opens draws hwho hdraw
  refine ⟨fun huninit => ?_, fun hready => ?_, fun hstopped hbusy => ?_, fun hstopped hp hc hw => ?_⟩
  · rw [exec_start hwho (by simp [huninit])]
    exact needInit_faults huninit
  · rw [exec_start hwho (by simp [hready]), needInit_runs (by simp [hready]), if_pos (by simpa using hready)]
    rfl
  · rw [exec_start_stopped hwho hstopped]
    exact openLink_busy (by simpa [lifecycleBusy, or_assoc] using hbusy)
  · rw [exec_start_opens hwho hstopped (lifecycleBusy_eq_false.2 ⟨hp, hc, hw⟩) hdraw]
    refine ⟨?_, ?_⟩
    · rintro fresh rfl
      rw [opened, State.linkUp_eq]
      rfl
    · rintro c (⟨rfl, rfl⟩ | ⟨rfl, rfl⟩ | ⟨rfl, rfl⟩) <;> rfl

/-! ## INTAKE (R190) -/

section
variable {s t : State} {who : Agent}

/-- One further step of a turn, where the stage's step is known. -/
theorem advance_of_stageStep {n : Nat} {st : Stage} {r : Result} (hlive : s.lstate ≠ .halted)
    (hport : (s.port who).stage = st) (hst : st ≠ .idle) (hstep : stageStep who st s = .next t)
    (hrest : advance who n t = r) : advance who (n + 1) s = r := by
  rw [advance_succ hlive (by rwa [hport]), hport, hstep, andThen, hrest]

theorem stageStep_intakePoll_yes {pollReads : List Ack} {draws : Nat} (hlink : s.link = true)
    (hdraw : drawFrom s.env.pollReads Config.freePollReadable s.draws = (.ok, pollReads, draws))
    (hrx : s.env.wireRx ≠ []) :
    stageStep who .intakePoll s = .next
      (State.setStage { s with env := { s.env with pollReads := pollReads }, draws := draws } who .intakeRead) := by
  rw [stageStep, askPollReadable, whileLinked_runs hlink]
  simp only [hdraw, if_neg hrx]

theorem stageStep_intakeRead_ok {reads : List ReadAnswer} {draws : Nat} {w : WireBytes} {rx : List WireBytes}
    (hlink : s.link = true) (hdraw : drawFrom s.env.reads Config.freeRead s.draws = (.ok, reads, draws))
    (hrx : s.env.wireRx = w :: rx) :
    stageStep who .intakeRead s = .next
      ((State.dropHead { s with env := { s.env with reads := reads }, draws := draws } w rx .taken).setStage who
        (.intakeDecode w)) := by
  rw [stageStep, askRead, whileLinked_runs hlink]
  simp only [hdraw, hrx]

theorem stageStep_intakeDecode {w : WireBytes} : stageStep who (.intakeDecode w) s =
    .next (s.setStage who (.intakeClaim (decodeBytes s.params.wireByteOrder w))) := rfl

theorem stageStep_intakeReport : stageStep who .intakeReport s = .next (s.respond who (.bool true)) := rfl

theorem stageStep_intakeClaim_room {f : InternalFrame} (hfree : s.pclaim = false) (hroom : s.count ≠ s.params.n) :
    stageStep who (.intakeClaim f) s =
      .next (State.setStage { s with pclaim := true } who (.intakeStore (slotRef s.wr) f)) := by
  simp [stageStep, claimEmpty, hfree, ringFull, hroom]

/-- The slot a store and a publish leave at the write position. -/
theorem slots_stored {f : InternalFrame} {z : Byte} (hin : s.wr < s.slots.length) :
    ((s.putFrame s.wr f).published z).slots = s.slots.set s.wr ⟨some f, some z⟩ := by
  simp [List.modify_eq_set_getElem?, hin]

/-- Step 5 of INTAKE: what is stored, published and signalled in one atomic step (R191). -/
theorem stageStep_intakeStore {slot : Byte} {f : InternalFrame} {cell : Slot} (hclaim : s.pclaim = true)
    (hslot : slot.toNat = s.wr) (hcell : s.slots[s.wr]? = some cell) :
    stageStep who (.intakeStore slot f) s = .next (State.setStage { s with
      slots := s.slots.set s.wr ⟨some f, some 13⟩
      count := s.count + 1
      wr := (s.wr + 1) % s.params.n
      pclaim := false
      history := .rxEvent :: .wake :: s.history } who .intakeReport) := by
  obtain ⟨hin, -⟩ := List.getElem?_eq_some_iff.1 hcell
  have hdone : stageStep who (.intakeStore slot f) s =
      .next ((((s.putFrame s.wr f).published intakeSize).log .rxEvent).setStage who .intakeReport) := by
    simp [stageStep, slotWrite, publish, hclaim, hslot, withSlot_inside, hin,
      show sizeAccepted intakeSize = true by decide]
  have hstored : State.log ((s.putFrame s.wr f).published intakeSize) .rxEvent = { s with
      slots := ((s.putFrame s.wr f).published intakeSize).slots
      count := s.count + 1
      wr := (s.wr + 1) % s.params.n
      pclaim := false
      history := .rxEvent :: .wake :: s.history } := rfl
  rw [hdone, hstored, slots_stored hin]
  rfl

/-- Steps 1 to 3 of INTAKE with a frame waiting: it is read and decoded (R190). -/
theorem advance_intakePoll {w : WireBytes} {rx : List WireBytes} {pollReads : List Ack} {reads : List ReadAnswer}
    {n d₁ d₂ : Nat} (hstage : s.portP.stage = .intakePoll) (hlive : s.lstate ≠ .halted) (hlink : s.link = true)
    (hrx : s.env.wireRx = w :: rx)
    (hpoll : drawFrom s.env.pollReads Config.freePollReadable s.draws = (.ok, pollReads, d₁))
    (hread : drawFrom s.env.reads Config.freeRead d₁ = (.ok, reads, d₂)) :
    advance .p (n + 3) s = advance .p n { s with
      env := { s.env with wireRx := rx, pollReads := pollReads, reads := reads }
      draws := d₂
      portP := { s.portP with stage := .intakeClaim (decodeBytes s.params.wireByteOrder w) }
      history := .taken w :: s.history } := by
  have hwaiting : s.env.wireRx ≠ [] := by simp [hrx]
  refine advance_of_stageStep hlive hstage nofun (stageStep_intakePoll_yes hlink hpoll hwaiting) ?_
  refine advance_of_stageStep hlive rfl nofun (stageStep_intakeRead_ok hlink hread hrx) ?_
  refine advance_of_stageStep hlive rfl nofun stageStep_intakeDecode ?_
  simp only [State.setStage, State.setPort, State.dropHead, State.log, State.port]

/-- Steps 4 to 6 of INTAKE with no claim open and room in the ring: the frame is stored, published and reported. -/
theorem advance_intakeClaim {f : InternalFrame} {cell : Slot} {n : Nat} (hstage : s.portP.stage = .intakeClaim f)
    (hlive : s.lstate ≠ .halted) (hfree : s.pclaim = false) (hroom : s.count ≠ s.params.n) (hwr : s.wr < 256)
    (hcell : s.slots[s.wr]? = some cell) :
    advance .p (n + 3) s = .next { s with
      slots := s.slots.set s.wr ⟨some f, some 13⟩
      count := s.count + 1
      wr := (s.wr + 1) % s.params.n
      pclaim := false
      portP := { s.portP with stage := .idle }
      history := .response .p (.bool true) :: .rxEvent :: .wake :: s.history } := by
  refine advance_of_stageStep hlive hstage nofun (stageStep_intakeClaim_room hfree hroom) ?_
  refine advance_of_stageStep hlive rfl nofun (stageStep_intakeStore rfl (slotRef_toNat hwr) hcell) ?_
  exact advance_of_stageStep hlive rfl nofun stageStep_intakeReport (advance_idle rfl)
end

/-- Settles O27: the six steps of INTAKE one after the other, and its step 5 alone. -/
theorem intakeMovesOneFrame : Obligations.IntakeMovesOneFrame := by
  refine ⟨?_, ?_⟩
  · intro s w rx cell pollReads reads d₁ d₂ hwho hsteps hready hlink hrx hpoll hread hfree hroom hwr hcell
    obtain ⟨n, hn⟩ : ∃ n, s.turn.steps = n + 6 := ⟨s.turn.steps - 6, by omega⟩
    have hlive : s.lstate ≠ .halted := by simp [hready]
    have hport : mayIssue s.turn.agent .intake = true := by rw [hwho]; decide
    rw [exec, execIntake, request_runs hlive hport, hwho, if_pos (by simpa using hready), begin, State.log_turn, hn]
    refine Eq.trans (advance_intakePoll (n := n + 3) rfl hlive hlink hrx hpoll hread) ?_
    refine Eq.trans (advance_intakeClaim rfl hlive hfree hroom hwr hcell) ?_
    rw [← hfree]
    rfl
  · intro s slot f cell rest hs hstage hlive hclaim hslot hcell
    rw [step_agent hs, agentTurn_goesOn (by simp [hstage])]
    exact advance_of_stageStep hlive hstage nofun (stageStep_intakeStore hclaim hslot hcell) rfl

end Sys2Proof.Machine
end

section
/-! SUPPORT. Proofs for the scope statements on ownership: between two steps of a composite operation the claim it holds is
still there, and so no step comes to a stop. Then the splitting of a turn, the producer's primitives and the views of a
payload. -/

namespace Sys2Proof.Machine

/-- What is owned whatever the stage of the acting agent is: the ownership of the state with that agent idle. -/
def State.OwnedBut (s : State) (who : Agent) : Prop := (s.setStage who .idle).Owned

/-- An answer that is no stop, with the ownership kept. -/
abbrev AnswersOwned (r : Result) : Prop := Ends State.Owned (fun _ => False) r

section
variable {s : State} {who : Agent}

/-! ## The ring where it is set up -/

/-- Neither before INIT nor in HALTED, the ring is set up. -/
theorem ringUsable_of_ne (hlive : s.lstate ≠ .halted) (hset : s.lstate ≠ .uninit) : ringUsable s = true := by
  cases hs : s.lstate <;> simp_all [ringUsable]

theorem lstate_ne_uninit (hring : ringUsable s = true) : s.lstate ≠ .uninit := by
  intro hs
  simp [ringUsable, hs] at hring

theorem State.Inv.slots_length (h : s.Inv) : s.slots.length = s.params.n := by
  obtain ⟨-, hslots, -⟩ := h
  exact memory_wf_iff.1 hslots

/-- R26, R69: the cursors of a ring that is set up name slots. -/
theorem State.Inv.wr_inside (h : s.Inv) (hring : ringUsable s = true) : s.wr < s.slots.length :=
  h.slots_length ▸ (h.ringOk hring).wr

theorem State.Inv.rd_inside (h : s.Inv) (hring : ringUsable s = true) : s.rd < s.slots.length :=
  h.slots_length ▸ (h.ringOk hring).rd

/-- R101: the slot references of the cursors are exact. -/
theorem State.Inv.slotRef_wr (h : s.Inv) (hring : ringUsable s = true) : (slotRef s.wr).toNat = s.wr := by
  obtain ⟨-, -, -, hwr, -⟩ := cursorsFitTheirWidths s h hring
  exact hwr

theorem State.Inv.slotRef_rd (h : s.Inv) (hring : ringUsable s = true) : (slotRef s.rd).toNat = s.rd := by
  obtain ⟨-, -, -, -, hrd⟩ := cursorsFitTheirWidths s h hring
  exact hrd

/-- R158: where the ring is set up, a consumer that is not held has CWAIT = 0. -/
theorem cwait_eq_false (hset : s.lstate ≠ .uninit) (hfree : consumerHeld s ≠ true) : s.cwait = false := by
  simpa [consumerHeld, hset] using hfree

/-! ## The acting agent apart -/

theorem State.setStage_idle (h : (s.port who).stage = .idle) : s.setStage who .idle = s := by
  have hport : ({ s.port who with stage := .idle } : Port) = s.port who := by rw [← h]
  rw [State.setStage, hport]
  cases who <;> rfl

theorem State.OwnedBut.owned (h : s.OwnedBut who) (hidle : (s.port who).stage = .idle) : s.Owned := by
  rwa [State.OwnedBut, State.setStage_idle hidle] at h

theorem State.Owned.but (h : s.Owned) (who : Agent) : s.OwnedBut who := by
  obtain ⟨hp, hc, ha, hwait, huninit, hheld⟩ := h
  cases who with
  | p => exact ⟨rfl, hc, ha, hwait, fun hs => let ⟨_, hidle⟩ := huninit hs; ⟨rfl, hidle⟩, hheld⟩
  | c =>
    exact ⟨hp, rfl, ha, hwait, fun hs => let ⟨hidleP, _, hidle⟩ := huninit hs; ⟨hidleP, rfl, hidle⟩,
      fun hring hwait => let ⟨hcclaim, _⟩ := hheld hring hwait; ⟨hcclaim, rfl⟩⟩
  | a =>
    exact ⟨hp, hc, rfl, hwait, fun hs => let ⟨hidleP, hidleC, _, hnone⟩ := huninit hs; ⟨hidleP, hidleC, rfl, hnone⟩,
      hheld⟩

/-- R199, R190: an agent with an operation in progress stands after INIT. -/
theorem State.Owned.lstate_ne_uninit (h : s.Owned) (hbusy : (s.port who).stage ≠ .idle) : s.lstate ≠ .uninit := by
  obtain ⟨-, -, -, -, huninit, -⟩ := h
  intro hs
  obtain ⟨hp, hc, ha, -⟩ := huninit hs
  cases who <;> exact hbusy ‹_›

/-! ## How an operation ends, and how it goes on -/

theorem State.OwnedBut.respond (h : s.OwnedBut who) {r : Response} : (s.respond who r).Owned := by
  cases who <;> exact h

theorem State.OwnedBut.mark (h : s.OwnedBut who) : (s.markRefused who).Owned := by
  cases who <;> exact h

/-- R252: in HALTED nothing is asked of a ring or of a state before INIT. -/
theorem State.OwnedBut.fault (h : s.OwnedBut who) {c : FaultCode} : (s.takeFault who c).Owned := by
  obtain ⟨hp, hc, ha, hwait, -, -⟩ := h
  cases who <;> exact ⟨hp, hc, ha, hwait, nofun, nofun⟩

theorem State.OwnedBut.stage_p {st : Stage} (h : s.OwnedBut .p) (hset : s.lstate ≠ .uninit)
    (hst : producerStageOk s.pclaim s.wr st = true) : (s.setStage .p st).Owned := by
  obtain ⟨-, hc, ha, hwait, -, hheld⟩ := h
  exact ⟨hst, hc, ha, hwait, (absurd · hset), hheld⟩

theorem State.OwnedBut.stage_c {st : Stage} (h : s.OwnedBut .c) (hset : s.lstate ≠ .uninit) (hfree : s.cwait = false)
    (hst : consumerStageOk s.cclaim s.rd st = true) : (s.setStage .c st).Owned := by
  obtain ⟨hp, -, ha, hwait, -, -⟩ := h
  exact ⟨hp, hst, ha, hwait, (absurd · hset), fun _ hheld => absurd (hfree.symm.trans hheld) nofun⟩

theorem State.OwnedBut.stage_a {st : Stage} (h : s.OwnedBut .a) (hset : s.lstate ≠ .uninit)
    (hst : applicationStageOk st = true) : (s.setStage .a st).Owned := by
  obtain ⟨hp, hc, -, hwait, -, hheld⟩ := h
  exact ⟨hp, hc, hst, hwait, (absurd · hset), hheld⟩

/-! ## What no ownership depends on -/

theorem State.OwnedBut.log (h : s.OwnedBut who) {e : Event} : (s.log e).OwnedBut who := by
  cases who <;> exact h

theorem State.OwnedBut.asked (h : s.OwnedBut who) {env : Env} {draws : Nat} :
    State.OwnedBut { s with env := env, draws := draws } who := by
  cases who <;> exact h

theorem State.OwnedBut.dropHead (h : s.OwnedBut who) {w : WireBytes} {rest : List WireBytes} {e : WireBytes → Event} :
    (s.dropHead w rest e).OwnedBut who := by
  cases who <;> exact h

theorem State.OwnedBut.name (h : s.OwnedBut who) {cfg : CfgName} :
    State.OwnedBut { s with cfg := some cfg } who := by
  cases who <;> exact h

theorem State.OwnedBut.putFrame (h : s.OwnedBut who) {i : Nat} {f : InternalFrame} : (s.putFrame i f).OwnedBut who := by
  cases who <;> exact h

/-! ## The updates of each agent -/

/-- R71: what the producer writes of the claim and the write position is its own. -/
theorem State.OwnedBut.claimEmpty (h : s.OwnedBut .p) : State.OwnedBut { s with pclaim := true } .p := by
  obtain ⟨-, hothers⟩ := h
  exact ⟨rfl, hothers⟩

theorem State.OwnedBut.published (h : s.OwnedBut .p) {z : Byte} : (s.published z).OwnedBut .p := by
  obtain ⟨-, hothers⟩ := h
  exact ⟨rfl, hothers⟩

theorem State.OwnedBut.claimFull (h : s.OwnedBut .c) (hfree : s.cwait = false) :
    State.OwnedBut { s with cclaim := true } .c := by
  obtain ⟨hp, -, ha, hwait, huninit, -⟩ := h
  exact ⟨hp, rfl, ha, hwait, huninit, fun _ hheld => absurd (hfree.symm.trans hheld) nofun⟩

theorem State.OwnedBut.released (h : s.OwnedBut .c) : s.released.OwnedBut .c := by
  obtain ⟨hp, -, ha, hwait, huninit, -⟩ := h
  exact ⟨hp, rfl, ha, hwait, huninit, fun _ _ => ⟨rfl, rfl⟩⟩

theorem State.OwnedBut.hold (h : s.OwnedBut .c) (hfree : s.cclaim = false) {timeout : Word32} :
    (s.hold timeout).OwnedBut .c := by
  obtain ⟨hp, -, ha, hwait, huninit, -⟩ := h
  exact ⟨hp, rfl, ha, hwait, huninit, fun _ _ => ⟨hfree, rfl⟩⟩

/-- R158: the end of a hold, with the claim (completion) or without (expiry). -/
theorem State.OwnedBut.endHold (h : s.OwnedBut .c) {cclaim : Bool} :
    State.OwnedBut { s with cwait := false, cclaim := cclaim } .c := by
  obtain ⟨hp, -, ha, hwait, huninit, -⟩ := h
  exact ⟨hp, rfl, ha, hwait, huninit, fun _ => nofun⟩

/-- INIT finds no operation in progress (R199, R190). -/
theorem State.OwnedBut.initialised (h : s.OwnedBut .a) (hstate : s.lstate = .uninit) : s.initialised.OwnedBut .a := by
  obtain ⟨-, -, ha, hwait, huninit, -⟩ := h
  obtain ⟨hidleP, hidleC, -, -⟩ := huninit hstate
  exact ⟨congrArg (producerStageOk false 0) hidleP, congrArg (consumerStageOk false 0) hidleC, ha, hwait, nofun,
    fun _ => nofun⟩

/-- Without a claim the stage of a producer does not depend on the write position. -/
theorem producerStageOk_unclaimed {pclaim : Bool} {wr wr' : Nat} {st : Stage} (hfree : pclaim = false)
    (h : producerStageOk pclaim wr st = true) : producerStageOk pclaim wr' st = true := by
  subst hfree
  cases st <;> exact h

theorem consumerStageOk_unclaimed {cclaim : Bool} {rd rd' : Nat} {st : Stage} (hfree : cclaim = false)
    (h : consumerStageOk cclaim rd st = true) : consumerStageOk cclaim rd' st = true := by
  subst hfree
  cases st <;> exact h

/-- START finds nothing claimed or held, and may move the cursors (R221, R224). -/
theorem State.OwnedBut.linkUp (h : s.OwnedBut .a) (hfree : lifecycleBusy s = false) {fresh : List WireBytes} :
    (s.linkUp fresh).OwnedBut .a := by
  obtain ⟨hpclaim, hcclaim, hcwait⟩ := lifecycleBusy_eq_false.1 hfree
  obtain ⟨hp, hc, ha, hwait, -, -⟩ := h
  rw [State.OwnedBut, State.linkUp_eq]
  exact ⟨producerStageOk_unclaimed hpclaim hp, consumerStageOk_unclaimed hcclaim hc, ha, hwait, nofun,
    fun _ hheld => absurd (hcwait.symm.trans hheld) nofun⟩

theorem State.OwnedBut.linkDown (h : s.OwnedBut .a) (hfree : lifecycleBusy s = false) : s.linkDown.OwnedBut .a := by
  obtain ⟨-, -, hcwait⟩ := lifecycleBusy_eq_false.1 hfree
  obtain ⟨hp, hc, ha, hwait, -, -⟩ := h
  exact ⟨hp, hc, ha, hwait, nofun, fun _ hheld => absurd (hcwait.symm.trans hheld) nofun⟩

end

/-! ## The steps of the composite operations -/

section
variable {s : State} {st : Stage}

/-- R190, R191: a step of an INTAKE. -/
theorem producerStep_owned (hinv : s.Inv) (hring : ringUsable s = true) (hown : s.OwnedBut .p) (hbusy : st ≠ .idle)
    (hst : producerStageOk s.pclaim s.wr st = true) : AnswersOwned (stageStep .p st s) := by
  have hset := lstate_ne_uninit hring
  cases st with
  | idle => exact absurd rfl hbusy
  | intakePoll =>
    rw [stageStep]
    refine askPollReadable_ends (fun _ => hown.mark) fun x _ _ _ => ?_
    cases x with
    | failed => exact hown.asked.fault
    | no => exact hown.asked.respond
    | yes => exact hown.asked.stage_p hset rfl
  | intakeRead =>
    rw [stageStep]
    exact askRead_ends (fun _ => hown.mark) (fun _ _ _ _ _ _ => hown.asked.dropHead.stage_p hset rfl)
      (fun _ _ _ _ _ _ => hown.asked.dropHead.fault) fun _ _ _ => hown.asked.fault
  | intakeDecode w => exact hown.stage_p hset rfl
  | intakeClaim f =>
    rw [stageStep]
    refine claimEmpty_ends (fun _ => hown.fault) (fun _ _ => hown.respond) fun _ _ => hown.claimEmpty.stage_p hset ?_
    simpa [producerStageOk] using hinv.slotRef_wr hring
  | intakeStore slot f =>
    exact intakeStore_ends hown.fault (fun _ _ _ => hown.putFrame.published.log.stage_p hset rfl)
      fun _ hout => (hinv.wr_inside hring).not_ge hout
  | intakeReport => exact hown.respond
  | receiveClaim | receiveRead | receiveRelease | receiveReply | transmitEncode | transmitWrite | transmitReply =>
    exact nomatch hst

/-- R192, R191: a step of a RECEIVE. -/
theorem consumerStep_owned (hinv : s.Inv) (hring : ringUsable s = true) (hown : s.OwnedBut .c) (hfree : s.cwait = false)
    (hbusy : st ≠ .idle) (hst : consumerStageOk s.cclaim s.rd st = true) : AnswersOwned (stageStep .c st s) := by
  have hset := lstate_ne_uninit hring
  cases st with
  | idle => exact absurd rfl hbusy
  | receiveClaim =>
    rw [stageStep]
    refine claimFull_ends (fun _ => hown.fault) (fun _ _ _ _ => (hown.claimFull hfree).stage_c hset hfree ?_)
      (fun _ _ _ => hown.respond) (fun _ _ hne => absurd rfl hne) fun _ hout => (hinv.rd_inside hring).not_ge hout
    simpa [consumerStageOk] using hinv.slotRef_rd hring
  | receiveRead slot =>
    rw [stageStep]
    exact slotRead_ends (fun _ _ => hown.fault) (fun _ _ _ _ => hown.stage_c hset hfree hst)
      fun _ hout => (hinv.rd_inside hring).not_ge hout
  | receiveRelease slot f =>
    rw [stageStep]
    exact release_ends (fun _ _ => hown.fault) fun _ _ => hown.released.stage_c hset hfree rfl
  | receiveReply f => exact hown.respond
  | intakePoll | intakeRead | intakeDecode | intakeClaim | intakeStore | intakeReport | transmitEncode | transmitWrite
  | transmitReply => exact nomatch hst

/-- R194: a step of a TRANSMIT. -/
theorem applicationStep_owned (hset : s.lstate ≠ .uninit) (hown : s.OwnedBut .a) (hbusy : st ≠ .idle)
    (hst : applicationStageOk st = true) : AnswersOwned (stageStep .a st s) := by
  cases st with
  | idle => exact absurd rfl hbusy
  | transmitEncode f => exact hown.stage_a hset rfl
  | transmitWrite w =>
    rw [stageStep]
    exact askWrite_ends (fun _ => hown.mark) (fun _ _ _ => (hown.asked.log).stage_a hset rfl)
      fun _ _ _ => hown.asked.fault
  | transmitReply => exact hown.respond
  | intakePoll | intakeRead | intakeDecode | intakeClaim | intakeStore | intakeReport | receiveClaim | receiveRead
  | receiveRelease | receiveReply => exact nomatch hst

variable {who : Agent}

/-- One atomic step of an operation in progress keeps the ownership and is no stop. -/
theorem stageStep_owned (hinv : s.Inv) (hown : s.Owned) (hlive : s.lstate ≠ .halted) :
    AnswersOwned (stageStep who (s.port who).stage s) := by
  by_cases hbusy : (s.port who).stage ≠ .idle
  · have hset := hown.lstate_ne_uninit hbusy
    have hring := ringUsable_of_ne hlive hset
    have hbut := hown.but who
    obtain ⟨hp, hc, ha, -, -, hheld⟩ := hown
    cases who with
    | p => exact producerStep_owned hinv hring hbut hbusy hp
    | c =>
      have hfree : s.cwait = false := eq_false_of_ne_true fun hwait =>
        let ⟨_, hidle⟩ := hheld hring hwait
        hbusy hidle
      exact consumerStep_owned hinv hring hbut hfree hbusy hc
    | a => exact applicationStep_owned hset hbut hbusy ha
  · rw [not_not.1 hbusy]
    exact ends_next.2 hown

/-- Two facts of an answer, one of which rules out the stops. -/
theorem ends_and {P Q : State → Prop} {F : Fault → Prop} {r : Result} (hP : Ends P F r)
    (hQ : Ends Q (fun _ => True) r) : Ends (fun t => P t ∧ Q t) F r := by
  cases r with
  | next t => exact ⟨hP, hQ⟩
  | fault f => exact hP
  | refused x => exact hP

/-- An atomic step keeps the invariant too, being a run of the operation. -/
theorem stageStep_inv (hinv : s.Inv) : Ends State.Inv (fun _ => True) (stageStep who (s.port who).stage s) := by
  obtain ⟨i, hfits⟩ := (s.port who).stage.fits_some
  exact ends_mono (fun _ ht => ht.reaches.induct hinv fun _ _ _ _ hdo => hdo.inv)
    (stageStep_stands (i := i) .start rfl hfits)

/-- The steps of a turn keep the ownership, each being given the invariant by the one before. -/
theorem advance_owned {fuel : Nat} (hinv : s.Inv) (hown : s.Owned) : AnswersOwned (advance who fuel s) := by
  have hstep (u : State) (hu : u.Owned ∧ u.Inv) (hlive : u.lstate ≠ .halted) :
      Ends (fun t => t.Owned ∧ t.Inv) (fun _ => False) (stageStep who (u.port who).stage u) :=
    let ⟨hown, hinv⟩ := hu
    ends_and (stageStep_owned hinv hown hlive) (stageStep_inv hinv)
  exact ends_mono (fun _ ⟨hown, _⟩ => hown) (advance_ends hstep fuel s ⟨hown, hinv⟩)

theorem begin_owned {who : Agent} {st : Stage} (hinv : s.Inv) (hown : (s.setStage who st).Owned) :
    AnswersOwned (begin who st s) :=
  advance_owned (inv_setPort hinv) hown

/-! ## The operations -/

/-- The agent whose turn it is may act: nothing of its own is in progress, and it is no held consumer. -/
structure Acts (s : State) : Prop where
  inv : s.Inv
  owned : s.Owned
  idle : (s.port s.turn.agent).stage = .idle
  free : ¬ (s.turn.agent = .c ∧ consumerHeld s = true)

/-- A request outside HALTED on its port goes on as an operation of the agent of that port. -/
theorem request_owned {i : Instr} {body : Agent → State → Result} (h : Acts s)
    (hbody : s.lstate ≠ .halted → mayIssue s.turn.agent i = true →
      (s.log (.request s.turn.agent i)).OwnedBut s.turn.agent →
      AnswersOwned (body s.turn.agent (s.log (.request s.turn.agent i)))) : AnswersOwned (request i body s) :=
  have issued := (h.owned.but s.turn.agent).log
  request_ends issued.mark fun hlive hport => hbody hlive hport issued

/-- The same where the operation has one port (R100). -/
theorem request_owned_of_issuer {i : Instr} {body : Agent → State → Result} (owner : Agent) (hi : issuers i = [owner])
    (h : Acts s) (hbody : s.lstate ≠ .halted → s.turn.agent = owner → (s.log (.request owner i)).OwnedBut owner →
      AnswersOwned (body owner (s.log (.request owner i)))) : AnswersOwned (request i body s) := by
  refine request_owned h fun hlive hport issued => ?_
  have hwho : s.turn.agent = owner := by simpa [mayIssue, hi] using hport
  rw [hwho] at issued ⊢
  exact hbody hlive hwho issued

/-- START from STOPPED (R221). -/
theorem openLink_owned {cfg : CfgName} (h : s.OwnedBut .a) : AnswersOwned (openLink .a cfg s) := by
  unfold openLink
  split
  · exact h.fault
  · next hbusy =>
    have hfree : lifecycleBusy s = false := eq_false_of_ne_true hbusy
    refine askOpen_ends fun x _ _ => ?_
    cases x with
    | ok fresh => exact (h.name.asked.log.linkUp hfree).respond
    | openFailed | resolveFailed | bindFailed => exact h.name.asked.log.fault

/-- STOP from READY (R222). -/
theorem closeLink_owned (h : s.OwnedBut .a) : AnswersOwned (closeLink .a s) := by
  unfold closeLink
  split
  · exact h.fault
  · next hbusy =>
    have hfree : lifecycleBusy s = false := eq_false_of_ne_true hbusy
    refine askClose_ends (fun _ => h.mark) fun x _ _ _ => ?_
    cases x with
    | ok => exact (h.asked.linkDown hfree).respond (r := .ok)
    | failed => exact h.asked.fault

/-- Every operation of an agent that may act keeps the ownership and is no stop. -/
theorem exec_owned (i : Instr) (h : Acts s) : AnswersOwned (exec i s) := by
  have wr_inside (hlive : s.lstate ≠ .halted) (hset : s.lstate ≠ .uninit) : ¬ s.slots.length ≤ s.wr :=
    (h.inv.wr_inside (ringUsable_of_ne hlive hset)).not_ge
  have rd_inside (hlive : s.lstate ≠ .halted) (hset : s.lstate ≠ .uninit) : ¬ s.slots.length ≤ s.rd :=
    (h.inv.rd_inside (ringUsable_of_ne hlive hset)).not_ge
  have hfree (hwho : s.turn.agent = .c) (hset : s.lstate ≠ .uninit) : s.cwait = false :=
    cwait_eq_false hset fun hheld => h.free ⟨hwho, hheld⟩
  have hset_of_ready (hready : s.lstate = .ready) : s.lstate ≠ .uninit := by simp [hready]
  cases i with
  | init =>
    rw [exec, execInit]
    refine request_owned_of_issuer .a rfl h fun _ _ issued => ?_
    split
    · next hstate => exact (issued.initialised hstate).respond
    · exact issued.fault
  | start cfg =>
    rw [exec, execStart]
    refine request_owned_of_issuer .a rfl h fun _ _ issued => needInit_ends issued.fault fun _ => ?_
    split
    · exact issued.respond
    · exact openLink_owned issued
  | stop =>
    rw [exec, execStop]
    refine request_owned_of_issuer .a rfl h fun _ _ issued => needInit_ends issued.fault fun _ => ?_
    split
    · exact issued.respond
    · exact closeLink_owned issued
  | sleep =>
    rw [exec, execSleep]
    exact request_owned h fun _ _ issued => issued.respond
  | wakeup =>
    rw [exec, execWakeup]
    exact request_owned h fun _ _ issued => issued.respond
  | encode f =>
    rw [exec, execEncode]
    exact request_owned h fun _ _ issued => issued.respond
  | decode w =>
    rw [exec, execDecode]
    exact request_owned h fun _ _ issued => issued.respond
  | claimEmpty =>
    rw [exec, execClaimEmpty]
    exact request_owned_of_issuer .p rfl h fun _ _ issued => needInit_ends issued.fault fun _ =>
      claimEmpty_ends (fun _ => issued.fault) (fun _ _ => issued.respond) fun _ _ => issued.claimEmpty.respond
  | slotWrite slot f =>
    rw [exec, execSlotWrite]
    exact request_owned_of_issuer .p rfl h fun hlive _ issued => needInit_ends issued.fault fun hset =>
      slotWrite_ends issued.fault (fun _ _ _ => issued.putFrame.respond) fun _ => wr_inside hlive hset
  | publish slot size =>
    rw [exec, execPublish]
    exact request_owned_of_issuer .p rfl h fun hlive _ issued => needInit_ends issued.fault fun hset =>
      publish_ends (fun _ _ => issued.fault) (fun _ _ _ _ => issued.published.respond) fun _ => wr_inside hlive hset
  | claimFull timeout =>
    rw [exec, execClaimFull]
    refine request_owned_of_issuer .c rfl h fun hlive hwho issued => needInit_ends issued.fault fun hset =>
      claimFull_ends (fun _ => issued.fault) (fun _ _ _ _ => (issued.claimFull (hfree hwho hset)).respond)
        (fun _ _ _ => issued.respond) (fun hcclaim _ _ => (issued.hold hcclaim).owned ?_) fun _ => rd_inside hlive hset
    have hidle := h.idle
    rwa [hwho] at hidle
  | slotRead slot =>
    rw [exec, execSlotRead]
    exact request_owned_of_issuer .c rfl h fun hlive _ issued => needInit_ends issued.fault fun hset =>
      slotRead_ends (fun _ _ => issued.fault) (fun _ _ _ _ => issued.respond) fun _ => rd_inside hlive hset
  | release slot =>
    rw [exec, execRelease]
    exact request_owned_of_issuer .c rfl h fun _ _ issued => needInit_ends issued.fault fun _ =>
      release_ends (fun _ _ => issued.fault) fun _ _ => issued.released.respond
  | intake =>
    rw [exec, execIntake]
    refine request_owned_of_issuer .p rfl h fun _ _ issued => ?_
    split
    · next hready => exact begin_owned h.inv (issued.stage_p (hset_of_ready hready) rfl)
    · exact issued.respond
  | receive mbox =>
    rw [exec, execReceive]
    refine request_owned_of_issuer .c rfl h fun _ hwho issued => needReady_ends issued.fault fun hready => ?_
    have hset := hset_of_ready hready
    exact needMailbox_ends issued.mark issued.fault (begin_owned h.inv (issued.stage_c hset (hfree hwho hset) rfl))
  | transmit mbox f =>
    rw [exec, execTransmit]
    exact request_owned_of_issuer .a rfl h fun _ _ issued => needReady_ends issued.fault fun hready =>
      needMailbox_ends issued.mark issued.fault (begin_owned h.inv (issued.stage_a (hset_of_ready hready) rfl))
  | isRxNonempty mbox =>
    rw [exec, execIsRxNonempty]
    exact request_owned h fun _ _ issued => needReady_ends issued.fault fun _ =>
      needMailbox_ends issued.mark issued.fault issued.respond
  | isTxReady mbox =>
    rw [exec, execIsTxReady]
    refine request_owned h fun _ _ issued => needReady_ends issued.fault fun _ =>
      needMailbox_ends issued.mark issued.fault (askPollWritable_ends (fun _ => issued.mark) fun x _ _ _ => ?_)
    cases x with
    | failed => exact issued.asked.fault
    | yes | no => exact issued.asked.respond
  | abort mbox =>
    rw [exec, execAbort]
    exact request_owned h fun _ _ issued => needMailbox_ends issued.mark issued.fault issued.respond
end

/-! ## Turns and moves -/

section
variable {s : State} {who : Agent}

/-- A turn of an agent: the operation in progress goes on, or the next request finds an agent that may act. -/
theorem agentTurn_owned {steps : Nat} (hinv : s.Inv) (hown : s.Owned) : AnswersOwned (agentTurn who steps s) := by
  by_cases hidle : (s.port who).stage = .idle
  · by_cases hheld : who = .c ∧ consumerHeld s = true
    · rw [agentTurn_held hidle hheld]
      exact ends_next.2 hown
    · rw [agentTurn_serves hidle hheld]
      have served (pending) : Acts (s.served who steps pending) :=
        ⟨inv_setPort hinv, by cases who <;> exact hown, by simpa [State.served] using hidle, by cases who <;> exact hheld⟩
      exact serveRequest_ends hown (fun _ pending i _ _ => exec_owned i (served pending)) fun _ pending op _ _ =>
        illegalRequest_ends (((served pending).owned.but _).log.mark) fun _ => ((served pending).owned.but _).log.fault
  · rw [agentTurn_goesOn hidle]
    exact advance_owned hinv hown

theorem switchThread_owned (hown : s.Owned) (k : Nat) : (s.switchThread k).Owned := by
  obtain ⟨hp, hc, ha, hwait, huninit, hheld⟩ := hown
  obtain ⟨ha', hwait'⟩ := State.switchThread_stages (k := k) (P := fun st => applicationStageOk st = true) rfl ha hwait
  refine ⟨hp, hc, ha', hwait', fun hs => ?_, hheld⟩
  obtain ⟨hidleP, hidleC, hidleA, hnone⟩ := huninit hs
  rw [State.switchThread_free hidleA (by simp [hnone])]
  exact ⟨hidleP, hidleC, hidleA, hnone⟩

theorem takeMove_owned {m : Move} (hinv : s.Inv) (hown : s.Owned) : AnswersOwned (takeMove m s) := by
  cases m with
  | agent who steps => exact agentTurn_owned hinv hown
  | thread k => exact ends_next.2 (switchThread_owned hown k)
  | inject w => exact injectFrame_ends hown fun _ => hown
  | lose k => exact loseFrame_ends hown fun _ _ _ => hown
  | complete =>
    exact completeHeld_ends hown (fun _ _ _ _ _ _ => (hown.but .c).endHold.respond) fun hring _ hout =>
      (hinv.rd_inside hring).not_ge hout
  | expire => exact expireHeld_ends hown fun _ _ _ => (hown.but .c).endHold.respond
end

/-- Settles O47: every move keeps the ownership. -/
theorem stepKeepsOwnership : Obligations.StepKeepsOwnership :=
  fun s _ hinv hown hstep => (takeMove_owned (s := (nextMove s).2) hinv hown).of_next hstep

/-- Settles O48: the one stop is a cursor outside the slot array, which no move of such a state comes to. -/
theorem stepAlwaysAnswers : Obligations.StepAlwaysAnswers := by
  intro s hinv hown
  obtain ⟨t, hstep, -⟩ := (takeMove_owned (m := (nextMove s).1) (s := (nextMove s).2) hinv hown).exists_next
  exact ⟨t, hstep⟩

/-! ## The splitting of a turn (R67) -/

/-- R252: in HALTED no agent has a step. -/
theorem advance_halted {who : Agent} {n : Nat} {s : State} (h : s.lstate = .halted) :
    advance who n s = .next s := by
  cases n with
  | zero => rfl
  | succ n => simp [advance, h]

theorem andThen_assoc (r : Result) (k l : State → Result) :
    andThen (andThen r k) l = andThen r fun s => andThen (k s) l := by
  cases r <;> rfl

/-- Settles O42, by induction on the first turn: where it has ended so has the second, and else both go on after one
atomic step. -/
theorem turnsSplitAnywhere : Obligations.TurnsSplitAnywhere := by
  intro who m n s
  induction m generalizing s with
  | zero => rw [Nat.zero_add]; rfl
  | succ m ih =>
    by_cases hhalted : s.lstate = .halted
    · simp only [advance_halted hhalted, andThen]
    · by_cases hidle : (s.port who).stage = .idle
      · simp only [advance_idle hidle, andThen]
      · rw [Nat.add_right_comm, advance_succ hhalted hidle, advance_succ hhalted hidle, andThen_assoc]
        exact congrArg _ (funext ih)

/-! ## The producer's primitives (R76, R256) -/

/-- The newest event is the agent's response or its fault. -/
def JustEnded (who : Agent) (t : State) : Prop :=
  (∃ r, t.history.head? = some (.response who r)) ∨ ∃ c, t.history.head? = some (.fault who c)

section
variable {s : State}

theorem justEnded_respond {who : Agent} {r : Response} : JustEnded who (s.respond who r) :=
  .inl ⟨r, by rw [State.respond_history]; rfl⟩

theorem justEnded_fault {who : Agent} {c : FaultCode} : JustEnded who (s.takeFault who c) :=
  .inr ⟨c, by rw [State.takeFault_history]; rfl⟩

/-- An operation R150 lists, on its port outside HALTED, ends in NotInitialized or finds the ring set up. -/
theorem request_needInit_justEnded {i : Instr} {k : Agent → State → Result} {F : Fault → Prop}
    (hlive : s.lstate ≠ .halted) (hport : mayIssue s.turn.agent i = true)
    (hk : ringUsable s = true →
      Ends (JustEnded s.turn.agent) F (k s.turn.agent (s.log (.request s.turn.agent i)))) :
    Ends (JustEnded s.turn.agent) F (request i (fun who => needInit who (k who)) s) := by
  rw [request_runs hlive hport]
  exact needInit_ends justEnded_fault fun hset => hk (ringUsable_of_ne hlive hset)

/-- None of the three primitives holds or stops: the write position names a slot. -/
theorem exec_producer_justEnded {i : Instr} (hinv : s.Inv) (hwho : s.turn.agent = .p) (hlive : s.lstate ≠ .halted)
    (hi : i = .claimEmpty ∨ (∃ slot f, i = .slotWrite slot f) ∨ ∃ slot size, i = .publish slot size) :
    Ends (JustEnded s.turn.agent) (fun _ => False) (exec i s) := by
  have hport : mayIssue s.turn.agent i = true := by
    rw [hwho]
    obtain rfl | ⟨_, _, rfl⟩ | ⟨_, _, rfl⟩ := hi <;> rfl
  obtain rfl | ⟨slot, f, rfl⟩ | ⟨slot, size, rfl⟩ := hi
  · rw [exec, execClaimEmpty]
    exact request_needInit_justEnded hlive hport fun _ =>
      claimEmpty_ends (fun _ => justEnded_fault) (fun _ _ => justEnded_respond) fun _ _ => justEnded_respond
  · rw [exec, execSlotWrite]
    exact request_needInit_justEnded hlive hport fun hring =>
      slotWrite_ends justEnded_fault (fun _ _ _ => justEnded_respond) fun _ => (hinv.wr_inside hring).not_ge
  · rw [exec, execPublish]
    exact request_needInit_justEnded hlive hport fun hring =>
      publish_ends (fun _ _ => justEnded_fault) (fun _ _ _ _ => justEnded_respond)
        fun _ => (hinv.wr_inside hring).not_ge
end

/-- Settles O58: the primitive ends at once; it writes no CWAIT and touches no other port (R37, R99). -/
theorem producerNeverWaits : Obligations.ProducerNeverWaits := by
  intro i s hinv hwho hlive hi
  obtain ⟨t, ht, hended⟩ := (exec_producer_justEnded hinv hwho hlive hi).exists_next
  have hreach := (exec_reaches i s).of_next ht
  rw [hwho] at hended hreach
  refine ⟨t, ht, hreach.same (r := .cwait) ?_, hreach.port_other (other := .c) nofun, hended⟩
  obtain rfl | ⟨_, _, rfl⟩ | ⟨_, _, rfl⟩ := hi <;> simp [Register.WrittenBy]

/-! ## The views of a payload (R62) -/

/-- Read at any width, a byte appended to a value is its low byte. -/
theorem setWidth_append_byte {n : Nat} (x : BitVec n) (b : Byte) (v : Nat) :
    (x ++ b).setWidth v = b.setWidth v ||| (x.setWidth v <<< 8) := by
  ext i hi
  simp only [BitVec.getElem_setWidth, BitVec.getLsbD_append, BitVec.getElem_or, BitVec.getElem_shiftLeft]
  by_cases h : i < 8
  · simp [h]
  · simp [h, BitVec.getLsbD_of_ge b i (by omega)]

/-- Settles O13: each view is bytes appended one by one. -/
theorem payloadWordViews : Obligations.PayloadWordViews := by
  refine fun d => ⟨fun j => ?_, fun j => ?_⟩
  · rw [← BitVec.setWidth_eq (data16 d j), data16, setWidth_append_byte]
  · rw [← BitVec.setWidth_eq (data32 d j), data32, setWidth_append_byte, setWidth_append_byte, setWidth_append_byte]
    simp only [BitVec.shiftLeft_or_distrib, ← BitVec.shiftLeft_add, BitVec.or_assoc]

end Sys2Proof.Machine
end

section
/-! SUPPORT. Proofs for the encoding statements (30_encoding). A value is its bytes (R8), so the packings of R92 and R95
and the identifier of R97 are inverted byte by byte; the decoder inverts the encoder because they do; and the linear
form of log 7 gives back the ports the format names. Then the codec's fields, the bytes of a serialised frame, and the
common checks of a request. -/

namespace Sys2Proof

/-! ## A value is its bytes (R8) -/

/-- The byte appended to a value is its byte 0. -/
theorem byteOf_append_zero {w : Nat} (x : BitVec w) (b : Byte) : byteOf (x ++ b) 0 = b :=
  BitVec.extractLsb'_append_eq_right

/-- The bytes of the value appended to follow it. -/
theorem byteOf_append_succ {w : Nat} (x : BitVec w) (b : Byte) (k : Nat) : byteOf (x ++ b) (k + 1) = byteOf x k := by
  rw [byteOf, BitVec.extractLsb'_append_eq_of_le (by omega)]
  exact congrArg (fun start => x.extractLsb' start 8) (by omega)

/-- Byte `k` of a field of bytes. -/
theorem byteOf_extractLsb' {w : Nat} (v : BitVec w) (start n k : Nat) (h : k < n) :
    byteOf (v.extractLsb' start (8 * n)) k = v.extractLsb' (start + 8 * k) 8 := by
  ext j hj
  simp only [byteOf, BitVec.getElem_extractLsb', BitVec.getLsbD_extractLsb']
  rw [decide_eq_true (by omega), Bool.true_and, Nat.add_assoc]

/-- Values of `n` bytes with the same bytes are the same. -/
theorem eq_of_byteOf_eq {n : Nat} {u v : BitVec (8 * n)} (h : ∀ k < n, byteOf u k = byteOf v k) : u = v := by
  refine BitVec.eq_of_getLsbD_eq fun i hi => ?_
  have hbit := congrArg (·.getLsbD (i % 8)) (h (i / 8) (by omega))
  have hlow : i % 8 < 8 := Nat.mod_lt i (by omega)
  simpa only [byteOf, BitVec.getLsbD_extractLsb', hlow, decide_true, Bool.true_and, Nat.div_add_mod] using hbit

/-! ## The packings of R92 and R95 -/

@[simp] theorem unpackPayload_packPayload (d : Payload) : unpackPayload (packPayload d) = d := by
  refine Vector.ext fun k hk => ?_
  rw [unpackPayload, Vector.getElem_ofFn, byteOf_packPayload d k hk]

@[simp] theorem packPayload_unpackPayload (v : BitVec 64) : packPayload (unpackPayload v) = v :=
  eq_of_byteOf_eq (n := 8) fun k hk => by rw [byteOf_packPayload _ k hk, unpackPayload, Vector.getElem_ofFn]

@[simp] theorem unpackWire_packWire (w : WireBytes) : unpackWire (packWire w) = w := by
  refine Vector.ext fun k hk => ?_
  rw [unpackWire, Vector.getElem_ofFn, byteOf_packWire w k hk]

@[simp] theorem packWire_unpackWire (v : BitVec 128) : packWire (unpackWire v) = v :=
  eq_of_byteOf_eq (n := 16) fun k hk => by rw [byteOf_packWire _ k hk, unpackWire, Vector.getElem_ofFn]

/-- R92: `ERR` at bit 0. -/
theorem packFrame_err (f : InternalFrame) : (packFrame f).getLsbD 0 = f.err := packFrame_getLsbD f 0

/-- R92: `RTR` at bit 1. -/
theorem packFrame_rtr (f : InternalFrame) : (packFrame f).getLsbD 1 = f.rtr := packFrame_getLsbD f 1

/-- R92: `EXT` at bit 2. -/
theorem packFrame_ext (f : InternalFrame) : (packFrame f).getLsbD 2 = f.ext := packFrame_getLsbD f 2

/-- R92: `ID` at bits 31 to 3. -/
theorem packFrame_id (f : InternalFrame) : (packFrame f).extractLsb' 3 29 = f.id := by
  refine BitVec.eq_of_getLsbD_eq fun i hi => ?_
  rw [BitVec.getLsbD_extractLsb', decide_eq_true hi, Bool.true_and, packFrame_getLsbD, if_neg (by omega),
    if_neg (by omega), if_neg (by omega), if_pos (by omega), Nat.add_sub_cancel_left]

/-- R92: `LEN` at bits 39 to 32. -/
theorem packFrame_len (f : InternalFrame) : (packFrame f).extractLsb' 32 8 = f.len := by
  refine BitVec.eq_of_getLsbD_eq fun i hi => ?_
  rw [BitVec.getLsbD_extractLsb', decide_eq_true hi, Bool.true_and, packFrame_getLsbD, if_neg (by omega),
    if_neg (by omega), if_neg (by omega), if_neg (by omega), if_pos (by omega), Nat.add_sub_cancel_left]

/-- R92: the payload at bits 103 to 40. -/
theorem packFrame_payload (f : InternalFrame) : (packFrame f).extractLsb' 40 64 = packPayload f.data := by
  refine BitVec.eq_of_getLsbD_eq fun i hi => ?_
  rw [BitVec.getLsbD_extractLsb', decide_eq_true hi, Bool.true_and, packFrame_getLsbD, if_neg (by omega),
    if_neg (by omega), if_neg (by omega), if_neg (by omega), if_neg (by omega), Nat.add_sub_cancel_left]

@[simp] theorem unpackFrame_packFrame (f : InternalFrame) : unpackFrame (packFrame f) = f := by
  rw [unpackFrame, packFrame_err, packFrame_rtr, packFrame_ext, packFrame_id, packFrame_len, packFrame_payload,
    unpackPayload_packPayload]

/-- R92: the 104 bits are the fields of the frame read from them. -/
@[simp] theorem packFrame_unpackFrame (v : BitVec 104) : packFrame (unpackFrame v) = v := by
  refine BitVec.eq_of_getLsbD_eq fun i hi => ?_
  rw [packFrame_getLsbD]
  simp only [unpackFrame, packPayload_unpackPayload, BitVec.getLsbD_extractLsb']
  split_ifs with h0 h1 h2 hid hlen
  · rw [h0]
  · rw [h1]
  · rw [h2]
  all_goals rw [decide_eq_true (by omega), Bool.true_and, Nat.add_sub_cancel' (by omega)]

/-- Settles O5: the fields of a packed frame, one lemma each; and a value is its bytes. -/
theorem portPackings : Obligations.PortPackings := by
  refine ⟨fun f => ⟨packFrame_err f, packFrame_rtr f, packFrame_ext f, packFrame_id f, packFrame_len f,
    fun k => ?_⟩, packFrame_unpackFrame, rfl, fun w k => byteOf_packWire w k k.isLt, packWire_unpackWire⟩
  calc (packFrame f).extractLsb' (40 + 8 * k.val) 8
    _ = byteOf ((packFrame f).extractLsb' 40 64) k := (byteOf_extractLsb' (packFrame f) 40 8 k k.isLt).symm
    _ = byteOf (packPayload f.data) k := by rw [packFrame_payload]
    _ = f.data[k] := byteOf_packPayload f.data k k.isLt

/-! ## The decoder inverts the encoder (R99, R100) -/

/-- R92, R95, R100: only the operations with a packed operand need more than the operation map. -/
theorem decode_encode (i : Instr) : decode (encode i) = .ok i := by
  cases i with
  | encode f => exact congrArg (fun f => Except.ok (Instr.encode f)) (unpackFrame_packFrame f)
  | decode w => exact congrArg (fun w => Except.ok (Instr.decode w)) (unpackWire_packWire w)
  | slotWrite slot f => exact congrArg (fun f => Except.ok (Instr.slotWrite slot f)) (unpackFrame_packFrame f)
  | transmit mbox f => exact congrArg (fun f => Except.ok (Instr.transmit mbox f)) (unpackFrame_packFrame f)
  | _ => rfl

/-- Settles O1, by `decode_encode`. -/
theorem requestsDecodeBack : Obligations.RequestsDecodeBack := decode_encode

@[simp] theorem readPorts_op (r : Request) : (readPorts r).op = r.op := by
  unfold readPorts
  split <;> rfl

/-- R99: a request that decodes to `i` differs from `encode i` at most on the ports its format does not name. -/
theorem encode_of_decode {r : Request} {i : Instr} (h : decode r = .ok i) : encode i = readPorts r := by
  unfold decode at h
  split at h
  case h_20 => cases h
  all_goals
    rename_i hop
    have hcode : r.op = BitVec.ofNat 8 r.op.toNat := by simp
    rw [hop] at hcode
    cases h
    simp [encode, readPorts, formatOf, hcode, Instr.opcode]

/-- Settles O3: the reduced request is `encode i`, which decodes to `i`. -/
theorem decodedRequestsEncodeBack : Obligations.DecodedRequestsEncodeBack := by
  intro r i h
  have hports := encode_of_decode h
  exact ⟨hports, hports ▸ decode_encode i⟩

/-- R100, R103: the error is the default branch, which an assigned code never reaches. -/
theorem decode_reserved {r : Request} (h : formatOf r.op = none) : decode r = .error (.reservedOp r.op) := by
  unfold formatOf at h
  unfold decode
  split at h
  case h_20 => rfl
  all_goals cases h

/-- R100: an assigned code decodes. -/
theorem decode_assigned {r : Request} {fmt : Format} (h : formatOf r.op = some fmt) : ∃ i, decode r = .ok i := by
  unfold formatOf at h
  split at h
  case h_20 => cases h
  all_goals
    rename_i hop
    simp [decode, hop]

/-- R100: the operation has the code it was decoded from. -/
theorem opcode_of_decode {r : Request} {i : Instr} (h : decode r = .ok i) : i.opcode = r.op := by
  calc i.opcode
    _ = (encode i).op := by cases i <;> rfl
    _ = r.op := by rw [encode_of_decode h, readPorts_op]

/-- R100: the nineteen codes of the operation map are the ones with a format. -/
theorem formatOf_isSome_iff : ∀ op : Byte, (formatOf op).isSome ↔
    op.toNat ∈ [0x00, 0x01, 0x02, 0x03, 0x04, 0x10, 0x11, 0x20, 0x21, 0x22, 0x23, 0x24, 0x25, 0x30, 0x31, 0x32, 0x33,
      0x34, 0x35] := by decide

/-- Settles O4: a code has a format or is reserved. -/
theorem reservedCodesRejected : Obligations.ReservedCodesRejected := by
  intro r
  rw [← formatOf_isSome_iff]
  refine ⟨fun hsome => ?_, fun hnone => decode_reserved (Option.not_isSome_iff_eq_none.1 hnone)⟩
  obtain ⟨fmt, hfmt⟩ := Option.isSome_iff_exists.1 hsome
  obtain ⟨i, hi⟩ := decode_assigned hfmt
  exact ⟨i, hi, opcode_of_decode hi⟩

/-! ## The linear form (log 7) -/

/-- Reading a byte off the low end of a word. -/
theorem ofNat_byte_append (b : Byte) (x : Nat) : BitVec.ofNat 8 (b.toNat + x * 2 ^ 8) = b := by
  refine BitVec.eq_of_toNat_eq ?_
  rw [BitVec.toNat_ofNat, Nat.add_mul_mod_self_right, Nat.mod_eq_of_lt b.isLt]

/-- What stands above the byte at the low end of a word. -/
theorem shiftRight_byte_append (b : Byte) (x : Nat) : (b.toNat + x * 2 ^ 8) >>> 8 = x := by
  rw [Nat.shiftRight_eq_div_pow, Nat.add_mul_div_right _ _ (by decide), Nat.div_eq_of_lt b.isLt, Nat.zero_add]

/-- A byte below a value of `n` bits makes a value of `8 + n` bits. -/
theorem byte_append_lt (b : Byte) {x n : Nat} (hx : x < 2 ^ n) : b.toNat + x * 2 ^ 8 < 2 ^ (8 + n) := by
  have hb := b.isLt
  rw [Nat.pow_add]
  omega

/-- Log 7: the word of a request holds the ports its format names, and no others. -/
theorem requestOfWord_wordOfRequest (r : Request) : requestOfWord (wordOfRequest r) = readPorts r := by
  unfold requestOfWord wordOfRequest readPorts
  rw [ofNat_byte_append, shiftRight_byte_append]
  split <;> simp only [*, ofNat_byte_append, shiftRight_byte_append, BitVec.ofNat_toNat, BitVec.setWidth_eq]

/-- R99, R100: each operation's code, format and ports agree with the operation map. -/
theorem encodesItsFormat (i : Instr) : Laws.EncodesItsFormat.Statement i := by
  cases i <;> exact ⟨rfl, rfl, rfl⟩

theorem formatOf_encode (i : Instr) : formatOf (encode i).op = some i.format := by
  obtain ⟨hop, hformat, -⟩ := encodesItsFormat i
  rw [hop, hformat]

@[simp] theorem readPorts_encode (i : Instr) : readPorts (encode i) = encode i := by
  obtain ⟨-, -, hports⟩ := encodesItsFormat i
  exact hports

/-- Log 7: the operand ports of a format stand above the op byte at their widths. -/
theorem wordOfRequest_lt {r : Request} {i : Instr} (h : formatOf r.op = some i.format) :
    wordOfRequest r < 2 ^ i.bits := by
  unfold wordOfRequest Instr.bits
  rw [h]
  cases i.format with
  | none => exact byte_append_lt r.op (n := 0) Nat.one_pos
  | cfg => exact byte_append_lt r.op r.cfg.isLt
  | frame => exact byte_append_lt r.op r.frame.isLt
  | wire => exact byte_append_lt r.op r.wire.isLt
  | slotFrame => exact byte_append_lt r.op (byte_append_lt r.slot r.frame.isLt)
  | slotSize => exact byte_append_lt r.op (byte_append_lt r.slot r.size.isLt)
  | slot => exact byte_append_lt r.op r.slot.isLt
  | timeout => exact byte_append_lt r.op r.timeout.isLt
  | mbox => exact byte_append_lt r.op r.mbox.isLt
  | mboxFrame => exact byte_append_lt r.op (byte_append_lt r.mbox r.frame.isLt)

/-- Settles O2: the word is cut back into the ports the format names, and these decode to the operation. -/
theorem wordsDecodeBack : Obligations.WordsDecodeBack := by
  intro i
  have hfits : wordOfRequest (encode i) < 2 ^ i.bits := wordOfRequest_lt (formatOf_encode i)
  refine ⟨hfits, ?_⟩
  rw [decodeTableWord, Nat.mod_eq_of_lt hfits, requestOfWord_wordOfRequest, readPorts_encode, decode_encode]

/-- Settles O6, by running the decoder on each word. -/
theorem sampleWordsDecode : Obligations.SampleWordsDecode :=
  ⟨by decide, by decide, by decide, by decide, by decide, by decide, by decide⟩

/-! ## The codec's fields (R98) -/

namespace Machine

/-- R94: the mask has the identifier's bits. -/
theorem idMask_getLsbD (i : Nat) : idMask.getLsbD i = decide (i < 29) := by
  have hmask : idMask = (BitVec.allOnes 29).setWidth 32 := by decide
  rw [hmask, BitVec.getLsbD_setWidth, BitVec.getLsbD_allOnes, ← Bool.decide_and]
  exact decide_eq_decide.2 (by omega)

/-- R94: the mask keeps bits 28 to 0 of `WID`. -/
theorem and_idMask (v : Word32) : v &&& idMask = (v.extractLsb' 0 29).setWidth 32 := by
  refine BitVec.eq_of_getLsbD_eq fun i hi => ?_
  simp only [BitVec.getLsbD_and, idMask_getLsbD, BitVec.getLsbD_setWidth, BitVec.getLsbD_extractLsb', hi, decide_true,
    Bool.true_and, Nat.zero_add, Bool.and_comm]

/-- R133: the identifier is bits 28 to 0 of `WID`. -/
theorem decodeFrame_id (w : WireFrame) : (decodeFrame w).id = w.wid.extractLsb' 0 29 := by
  rw [decodeFrame, and_idMask, BitVec.setWidth_setWidth_of_le _ (by decide), BitVec.setWidth_eq]

/-- R93: the four fields of `WID` stand side by side, so the OR of R131 merges no bits. -/
theorem encodeWid_eq_append (f : InternalFrame) :
    encodeWid f = BitVec.ofBool f.ext ++ BitVec.ofBool f.rtr ++ BitVec.ofBool f.err ++ f.id := by
  refine BitVec.eq_of_getLsbD_eq fun i hi => ?_
  have happend : (BitVec.ofBool f.ext ++ BitVec.ofBool f.rtr ++ BitVec.ofBool f.err ++ f.id :
    BitVec (1 + 1 + 1 + 29)).getLsbD i = _ := BitVec.getLsbD_append
  rw [encodeWid_getLsbD f i hi]
  refine Eq.trans ?_ happend.symm
  simp only [BitVec.getLsbD_append, BitVec.getLsbD_ofBool]
  obtain rfl | rfl | rfl | hid : i = 31 ∨ i = 30 ∨ i = 29 ∨ i < 29 := by omega
  · simp
  · simp
  · simp
  · rw [if_pos hid, if_neg (by omega), if_neg (by omega), if_neg (by omega)]

/-- Settles O7: the encoder's identifier is a concatenation, the decoder's is `WID` under the mask, and the other fields
are carried. -/
theorem fieldsAssembledByTable : Obligations.FieldsAssembledByTable := by
  refine fun f w => ⟨rfl, encodeWid_eq_append f, rfl, fun _ => rfl, rfl, rfl, rfl, decodeFrame_id w, ?_, rfl,
    fun _ => rfl⟩
  rw [decodeFrame_id]
  exact (and_idMask w.wid).symm

/-! ## The bytes of a serialised Wire Frame (R60, R96, R97) -/

/-- Settles O8: each byte is one case of `serialise_getElem`. -/
theorem serialisedLayout : Obligations.SerialisedLayout := by
  intro w
  constructor
  all_goals
    refine Vector.ext fun j hj => ?_
    rw [serialise_getElem]
    interval_cases j <;> rfl

/-- R60: a value read from `n` bytes has each of them where a write in the same order puts it. -/
theorem orderedByte_memRead (o : ByteOrder) (wb : WireBytes) {n k : Nat} (addr : Nat) (h : k < n) :
    orderedByte o n (memRead o wb addr n) k = wireByte wb (addr + k) := by
  induction n generalizing addr k with
  | zero => omega
  | succ n ih =>
    cases o with
    | little =>
      cases k with
      | zero => exact byteOf_append_zero (memRead .little wb (addr + 1) n) (wireByte wb addr)
      | succ k =>
        calc orderedByte .little (n + 1) (memRead .little wb addr (n + 1)) (k + 1)
          _ = orderedByte .little n (memRead .little wb (addr + 1) n) k := byteOf_append_succ _ (wireByte wb addr) k
          _ = wireByte wb (addr + (k + 1)) := by rw [ih (addr + 1) (by omega), Nat.add_right_comm, Nat.add_assoc]
    | big =>
      obtain rfl | hk : k = n ∨ k < n := by omega
      · calc orderedByte .big (k + 1) (memRead .big wb addr (k + 1)) k
          _ = byteOf (memRead .big wb addr (k + 1)) 0 := congrArg (byteOf _) (by omega)
          _ = wireByte wb (addr + k) := byteOf_append_zero (memRead .big wb addr k) (wireByte wb (addr + k))
      · calc orderedByte .big (n + 1) (memRead .big wb addr (n + 1)) k
          _ = byteOf (memRead .big wb addr (n + 1)) (n - 1 - k + 1) := congrArg (byteOf _) (by omega)
          _ = orderedByte .big n (memRead .big wb addr n) k := byteOf_append_succ _ (wireByte wb (addr + n)) _
          _ = wireByte wb (addr + k) := ih addr hk

/-- Values of `n` bytes that either order lays out in the same way are the same. -/
theorem eq_of_orderedByte_eq (o : ByteOrder) {n : Nat} {u v : BitVec (8 * n)}
    (h : ∀ k < n, orderedByte o n u k = orderedByte o n v k) : u = v := by
  refine eq_of_byteOf_eq fun k hk => ?_
  cases o with
  | little => exact h k hk
  | big =>
    have hbyte := h (n - 1 - k) (by omega)
    simpa only [orderedByte, Nat.sub_sub_self (by omega : k ≤ n - 1)] using hbyte

/-- R69: an offset inside the frame names its byte. -/
theorem wireByte_eq_getElem (wb : WireBytes) {k : Nat} (h : k < 16) : wireByte wb k = wb[k] := by
  rw [wireByte, Vector.getElem?_eq_getElem h, Option.getD_some]

/-- R96, R97: the identifier survives in either order. -/
theorem memRead_serialise (o : ByteOrder) (w : WireFrame) : memRead o (serialise o w) 0 4 = w.wid := by
  refine eq_of_orderedByte_eq (n := 4) o fun k hk => ?_
  rw [orderedByte_memRead o _ 0 hk, Nat.zero_add, wireByte_eq_getElem _ (by omega), serialise_getElem,
    dif_neg (by omega), if_neg (by omega), if_pos hk]

theorem deserialise_serialise (o : ByteOrder) (w : WireFrame) : deserialise o (serialise o w) = w := by
  have hlen : (serialise o w)[4] = w.wlen := serialise_getElem o w 4 (by decide)
  have hdata : (Vector.ofFn fun k : Fin 8 => (serialise o w)[8 + k.val]) = w.wdata := by
    refine Vector.ext fun k hk => ?_
    rw [Vector.getElem_ofFn, serialise_getElem, dif_pos (by omega)]
    simp only [Nat.add_sub_cancel_left]
  rw [deserialise, memRead_serialise, hlen, hdata]

/-- Writing the padding leaves every other byte alone. -/
theorem set_padding_getElem (wb : WireBytes) (a b c : Byte) {k : Nat} (hk : k < 16) (h : k < 5 ∨ 8 ≤ k) :
    (((wb.set 5 a).set 6 b).set 7 c)[k] = wb[k] := by
  rw [Vector.getElem_set_ne _ _ (by omega), Vector.getElem_set_ne _ _ (by omega), Vector.getElem_set_ne _ _ (by omega)]

/-- R97: the padding bytes are not read. -/
theorem deserialise_set_padding (o : ByteOrder) (wb : WireBytes) (a b c : Byte) :
    deserialise o (((wb.set 5 a).set 6 b).set 7 c) = deserialise o wb := by
  simp [deserialise, memRead_four, set_padding_getElem]

/-- R96, R97: serialising what was read puts zeros on the padding and gives every other byte back. -/
theorem serialise_deserialise (o : ByteOrder) (wb : WireBytes) :
    serialise o (deserialise o wb) = ((wb.set 5 0).set 6 0).set 7 0 := by
  refine Vector.ext fun j hj => ?_
  rw [serialise_getElem]
  obtain hid | rfl | hpad | hdata : j < 4 ∨ j = 4 ∨ (j = 5 ∨ j = 6 ∨ j = 7) ∨ 8 ≤ j := by omega
  · rw [dif_neg (by omega), if_neg (by omega), if_pos hid, set_padding_getElem wb 0 0 0 hj (by omega)]
    rw [deserialise, orderedByte_memRead o wb 0 hid, Nat.zero_add, wireByte_eq_getElem wb hj]
  · rw [dif_neg (by omega), if_pos rfl, set_padding_getElem wb 0 0 0 hj (by omega)]
    rfl
  · rw [dif_neg (by omega), if_neg (by omega), if_neg (by omega)]
    obtain rfl | rfl | rfl := hpad <;> simp
  · rw [dif_pos hdata, set_padding_getElem wb 0 0 0 hj (.inr hdata)]
    simp only [deserialise, Vector.getElem_ofFn, Nat.add_sub_cancel' hdata]

/-- Zeros on the padding change nothing exactly when they stand there already. -/
theorem set_padding_zero_eq_self_iff (wb : WireBytes) :
    ((wb.set 5 0).set 6 0).set 7 0 = wb ↔ wb[5] = 0 ∧ wb[6] = 0 ∧ wb[7] = 0 := by
  constructor
  · intro h
    rw [← h]
    simp
  · rintro ⟨h5, h6, h7⟩
    have hset {k : Nat} (hk : k < 16) (h : wb[k] = 0) : wb.set k 0 = wb := by rw [← h, Vector.set_getElem_self]
    rw [hset _ h5, hset _ h6, hset _ h7]

/-- Settles O9: the bytes read, one by one, and the two round trips. -/
theorem deserialisedFields : Obligations.DeserialisedFields := by
  refine fun o w wb => ⟨memRead_four .little wb, memRead_four .big wb, rfl, fun k => ?_, deserialise_set_padding o wb,
    deserialise_serialise o w, ?_⟩
  · exact Vector.getElem_ofFn k.isLt
  · rw [serialise_deserialise, set_padding_zero_eq_self_iff]

/-! ## The common checks (R105, R251, R257) -/

/-- R251: every operation begins with the common checks of a request. -/
theorem exec_eq_request (i : Instr) (s : State) : ∃ body, exec i s = request i body s := by
  cases i <;> rw [exec]
  all_goals exact ⟨_, rfl⟩

/-- Settles O35: in HALTED as elsewhere, the common checks refuse the request. -/
theorem wrongPortRefused : Obligations.WrongPortRefused := by
  intro i s hport
  obtain ⟨body, hexec⟩ := exec_eq_request i s
  have hrefused : exec i s = .next ((s.log (.request s.turn.agent i)).markRefused s.turn.agent) := by
    rw [hexec]
    by_cases hhalted : s.lstate = .halted
    · exact request_halted hhalted
    · exact request_wrongPort hhalted hport
  exact hrefused

theorem needMailbox_one {who : Agent} {k : State → Result} {s : State} :
    needMailbox who 1 k s = .next (s.markRefused who) := rfl

theorem needMailbox_of_two_le {who : Agent} {mbox : Byte} {k : State → Result} {s : State} (h : 2 ≤ mbox.toNat) :
    needMailbox who mbox k s = .next (s.takeFault who .invalidMailbox) := by
  have h0 : mbox ≠ 0 := by rintro rfl; exact absurd h (by decide)
  have h1 : mbox ≠ 1 := by rintro rfl; exact absurd h (by decide)
  have hread : readMailbox mbox = .invalid := by rw [readMailbox, if_neg h0, if_neg h1]
  rw [needMailbox, hread]
  rfl

/-- R199, R251: where the lifecycle check passes, an operation with a mailbox comes to its mailbox check. -/
theorem exec_eq_needMailbox {i : Instr} {s : State} {mbox : Byte} (hport : mayIssue s.turn.agent i = true)
    (hmbox : mailboxOf i = some mbox) (hstate : s.lstate = .ready ∨ (i = .abort mbox ∧ s.lstate ≠ .halted)) :
    ∃ k, exec i s = needMailbox s.turn.agent mbox k (s.log (.request s.turn.agent i)) := by
  have hlive : s.lstate ≠ .halted := by
    obtain hready | ⟨-, hlive⟩ := hstate
    · simp [hready]
    · exact hlive
  have hready (habort : i ≠ .abort mbox) : (s.log (.request s.turn.agent i)).lstate = .ready :=
    hstate.resolve_right fun h => habort h.1
  cases i with
  | receive _ =>
    cases hmbox
    rw [exec, execReceive, request_runs hlive hport, needReady_runs (hready nofun)]
    exact ⟨_, rfl⟩
  | transmit _ f =>
    cases hmbox
    rw [exec, execTransmit, request_runs hlive hport, needReady_runs (hready nofun)]
    exact ⟨_, rfl⟩
  | isRxNonempty _ =>
    cases hmbox
    rw [exec, execIsRxNonempty, request_runs hlive hport, needReady_runs (hready nofun)]
    exact ⟨_, rfl⟩
  | isTxReady _ =>
    cases hmbox
    rw [exec, execIsTxReady, request_runs hlive hport, needReady_runs (hready nofun)]
    exact ⟨_, rfl⟩
  | abort _ =>
    cases hmbox
    rw [exec, execAbort, request_runs hlive hport]
    exact ⟨_, rfl⟩
  | _ => cases hmbox

/-- Settles O34, by the mailbox check the operation comes to. -/
theorem mailboxChecked : Obligations.MailboxChecked := by
  intro i s mbox hport hmbox hstate
  obtain ⟨k, hexec⟩ := exec_eq_needMailbox hport hmbox hstate
  rw [hexec]
  refine ⟨?_, needMailbox_of_two_le⟩
  rintro rfl
  exact needMailbox_one

end Machine

end Sys2Proof
end

section
/-! SUPPORT. Proofs for the codec statements (40_codec): the two frame forms are the same fields in other places, so the
encoder and the decoder are each other's inverse and a field's bits are its own; the codec operations answer outside
HALTED; and the operations that make no use of the ring commute with any change of its registers. -/

namespace Sys2Proof.Machine

/-! ## The round trips (R135, R137) -/

/-- R135: every field comes back from its own bits of `WID`, valid frame or malformed. -/
theorem decodeFrame_encodeFrame (f : InternalFrame) : decodeFrame (encodeFrame f) = f := by
  have hext : (encodeWid f).getLsbD extPos = f.ext := encodeWid_getLsbD f 31 (by decide)
  have hrtr : (encodeWid f).getLsbD rtrPos = f.rtr := encodeWid_getLsbD f 30 (by decide)
  have herr : (encodeWid f).getLsbD errPos = f.err := encodeWid_getLsbD f 29 (by decide)
  have hid : (encodeWid f &&& idMask).setWidth 29 = f.id := by
    refine (decodeFrame_id (encodeFrame f)).trans ?_
    rw [encodeFrame, encodeWid_eq_append]
    exact BitVec.extractLsb'_append_eq_right
  rw [decodeFrame, encodeFrame, hext, hrtr, herr, hid]

/-- R137: the 32 bits of `WID` are the four fields and no more. -/
theorem encodeFrame_decodeFrame (w : WireFrame) : encodeFrame (decodeFrame w) = w := by
  have hwid : encodeWid (decodeFrame w) = w.wid := by
    refine BitVec.eq_of_getLsbD_eq fun i hi => ?_
    rw [encodeWid_getLsbD _ i hi]
    obtain rfl | rfl | rfl | hid : i = 31 ∨ i = 30 ∨ i = 29 ∨ i < 29 := by omega
    · rfl
    · rfl
    · rfl
    · rw [if_neg (by omega), if_neg (by omega), if_neg (by omega), decodeFrame_id, BitVec.getLsbD_extractLsb']
      simp [hid]
  rw [encodeFrame, hwid]
  rfl

theorem decodeBytes_encodeBytes (o : ByteOrder) (f : InternalFrame) : decodeBytes o (encodeBytes o f) = f := by
  rw [decodeBytes, encodeBytes, deserialise_serialise, decodeFrame_encodeFrame]

/-- R137: only the padding, which DECODE does not read, is not given back. -/
theorem encodeBytes_decodeBytes (o : ByteOrder) (wb : WireBytes) :
    encodeBytes o (decodeBytes o wb) = ((wb.set 5 0).set 6 0).set 7 0 := by
  rw [encodeBytes, decodeBytes, encodeFrame_decodeFrame, serialise_deserialise]

/-- Settles O10: the round trip of the fields, and with it that of the bytes. -/
theorem internalRoundTrip : Obligations.InternalRoundTrip :=
  fun o f => ⟨decodeFrame_encodeFrame f, decodeBytes_encodeBytes o f⟩

/-- Settles O11: the round trip of the fields, and the bytes up to the padding. -/
theorem wireRoundTrip : Obligations.WireRoundTrip := by
  refine fun o w wb => ⟨encodeFrame_decodeFrame w, encodeBytes_decodeBytes o wb, ?_⟩
  rw [encodeBytes_decodeBytes, set_padding_zero_eq_self_iff]

/-! ## The flags (R136) -/

/-- R93, R136: a bit of `WID` is that of the one field it belongs to. -/
theorem encodeWid_getLsbD_congr {f g : InternalFrame} {k : Nat} (hk : k < 32) (hext : k = 31 → f.ext = g.ext)
    (hrtr : k = 30 → f.rtr = g.rtr) (herr : k = 29 → f.err = g.err) (hid : k < 29 → f.id = g.id) :
    (encodeWid f).getLsbD k = (encodeWid g).getLsbD k := by
  rw [encodeWid_getLsbD f k hk, encodeWid_getLsbD g k hk]
  refine ite_congr rfl hext fun h31 => ite_congr rfl hrtr fun h30 => ite_congr rfl herr fun h29 => ?_
  rw [hid (by omega)]

/-- Settles O12: the bits by the field each belongs to, the fields by the round trip of the changed frame. -/
theorem flagsIndependent : Obligations.FlagsIndependent := by
  intro f b x k hk
  simp only [decodeFrame_encodeFrame, and_true]
  exact ⟨fun herr => encodeWid_getLsbD_congr hk (fun _ => rfl) (fun _ => rfl) (absurd · herr) (fun _ => rfl),
    fun hrtr => encodeWid_getLsbD_congr hk (fun _ => rfl) (absurd · hrtr) (fun _ => rfl) (fun _ => rfl),
    fun hext => encodeWid_getLsbD_congr hk (absurd · hext) (fun _ => rfl) (fun _ => rfl) (fun _ => rfl),
    fun hid => encodeWid_getLsbD_congr hk (fun _ => rfl) (fun _ => rfl) (fun _ => rfl) (absurd · hid.not_gt)⟩

/-! ## The codec operations (R130, R131, R133) -/

section
variable {s : State} (hlive : s.lstate ≠ .halted)
include hlive

theorem exec_encode_answers {f : InternalFrame} (hport : mayIssue s.turn.agent (.encode f) = true) :
    exec (.encode f) s = .next ((s.log (.request s.turn.agent (.encode f))).respond s.turn.agent
      (.wire (encodeBytes s.params.wireByteOrder f))) := by
  rw [exec, execEncode, request_runs hlive hport]
  rfl

theorem exec_decode_answers {w : WireBytes} (hport : mayIssue s.turn.agent (.decode w) = true) :
    exec (.decode w) s = .next ((s.log (.request s.turn.agent (.decode w))).respond s.turn.agent
      (.frame (decodeBytes s.params.wireByteOrder w))) := by
  rw [exec, execDecode, request_runs hlive hport]
  rfl
end

/-- Settles O14: the answers of the two operations, written out on each port. -/
theorem codecAnswers : Obligations.CodecAnswers := by
  refine fun s f w hlive => ⟨fun hwho => ?_, fun hwho => ?_, fun hwho => ?_⟩
  · rw [exec_encode_answers hlive (by rw [hwho]; rfl), hwho]
    rfl
  · rw [exec_decode_answers hlive (by rw [hwho]; rfl), hwho]
    rfl
  · rw [exec_decode_answers hlive (by rw [hwho]; rfl), hwho]
    rfl

/-! ## Independence of the ring (R201) -/

/-- R201: run from `s`, `k` neither reads nor writes the ring's registers. -/
def IgnoresRing (k : State → Result) (s : State) : Prop :=
  ∀ r, k (s.withRing r) = mapNext (fun t => t.withRing r) (k s)

@[simp] theorem State.withRing_port (s : State) (r : RingRegisters) (who : Agent) :
    (s.withRing r).port who = s.port who := by cases who <;> rfl

section
variable {who : Agent} {s : State}

/-! ### How an operation ends or goes on -/

theorem ignoresRing_respond {x : Response} : IgnoresRing (respond who x) s := fun _ => by cases who <;> rfl

theorem ignoresRing_raise {c : FaultCode} : IgnoresRing (raise who c) s := fun _ => by cases who <;> rfl

theorem ignoresRing_refuse : IgnoresRing (refuse who) s := fun _ => by cases who <;> rfl

theorem ignoresRing_setStage {st : Stage} : IgnoresRing (fun t => .next (t.setStage who st)) s :=
  fun _ => by cases who <;> rfl

/-- Two operations one after the other. -/
theorem ignoresRing_andThen {k l : State → Result} (hk : IgnoresRing k s) (hl : ∀ t, k s = .next t → IgnoresRing l t) :
    IgnoresRing (fun t => andThen (k t) l) s := by
  intro r
  dsimp only
  rw [hk r]
  cases hs : k s with
  | next t => exact hl t hs r
  | fault | refused => rfl

/-- A check that reads no register of the ring. -/
theorem ignoresRing_ite {c : State → Prop} [DecidablePred c] {k l : State → Result}
    (hc : ∀ r, c (s.withRing r) = c s) (hk : IgnoresRing k s) (hl : IgnoresRing l s) :
    IgnoresRing (fun t => if c t then k t else l t) s := by
  intro r
  dsimp only
  rw [apply_ite (mapNext _)]
  exact ite_congr (hc r) (fun _ => hk r) fun _ => hl r

/-! ### The common checks and the questions -/

theorem ignoresRing_request {i : Instr} {body : Agent → State → Result}
    (h : IgnoresRing (body s.turn.agent) (s.log (.request s.turn.agent i))) : IgnoresRing (request i body) s := by
  have hrefuse : IgnoresRing (fun t => refuse t.turn.agent (t.log (.request t.turn.agent i))) s :=
    ignoresRing_refuse (who := s.turn.agent) (s := s.log (.request s.turn.agent i))
  exact ignoresRing_ite (c := fun t => t.lstate = .halted) (fun _ => rfl) hrefuse
    (ignoresRing_ite (c := fun t => mayIssue t.turn.agent i = true) (fun _ => rfl) h hrefuse)

variable {k : State → Result}

theorem ignoresRing_needReady (h : IgnoresRing k s) : IgnoresRing (needReady who k) s :=
  ignoresRing_ite (fun _ => rfl) h ignoresRing_raise

theorem ignoresRing_whileLinked (h : IgnoresRing k s) : IgnoresRing (whileLinked who k) s :=
  ignoresRing_ite (fun _ => rfl) h ignoresRing_refuse

theorem ignoresRing_needMailbox {mbox : Byte} (h : IgnoresRing k s) : IgnoresRing (needMailbox who mbox k) s := by
  intro r
  unfold needMailbox
  split
  · exact h r
  · exact ignoresRing_refuse r
  · exact ignoresRing_raise r

theorem ignoresRing_askPollWritable {k : PollAnswer → State → Result} (h : ∀ x t, IgnoresRing (k x) t) :
    IgnoresRing (askPollWritable who k) s :=
  ignoresRing_whileLinked fun r =>
    let answered := drawFrom s.env.pollWrites Config.freePollWritable s.draws
    h answered.1 { s with env := { s.env with pollWrites := answered.2.1 }, draws := answered.2.2 } r

theorem ignoresRing_askWrite {w : WireBytes} {k : Ack → State → Result} (h : ∀ x t, IgnoresRing (k x) t) :
    IgnoresRing (askWrite who w k) s := by
  refine ignoresRing_whileLinked fun r => ?_
  rcases hdraw : drawFrom s.env.writes (Config.freeWrite w) s.draws with ⟨answer, writes, draws⟩
  have hdrawRing : drawFrom (s.withRing r).env.writes (Config.freeWrite w) (s.withRing r).draws =
    (answer, writes, draws) := hdraw
  simp only [hdrawRing]
  cases answer with
  | ok =>
    exact h .ok (State.log { s with
      env := { s.env with writes := writes, wireTx := s.env.wireTx ++ [w] }, draws := draws } (.sent w)) r
  | failed => exact h .failed { s with env := { s.env with writes := writes }, draws := draws } r

/-! ### TRANSMIT -/

/-- R194: no stage of a TRANSMIT uses the ring. -/
theorem stageStep_transmit_ignoresRing {m : Byte} {f : InternalFrame} {d : Bool} {st : Stage}
    (hst : st.fits (.transmit m f) d) : IgnoresRing (stageStep who st) s := by
  cases st with
  | idle => exact fun _ => rfl
  | transmitEncode f => exact fun r => ignoresRing_setStage r
  | transmitWrite w =>
    unfold stageStep
    refine ignoresRing_askWrite fun x t => ?_
    cases x with
    | ok => exact ignoresRing_setStage
    | failed => exact ignoresRing_raise
  | transmitReply => exact ignoresRing_respond
  | intakePoll | intakeRead | intakeDecode | intakeClaim | intakeStore | intakeReport | receiveClaim | receiveRead
  | receiveRelease | receiveReply => simp [Stage.fits] at hst

/-- The steps of a turn stay at a TRANSMIT's stages. -/
theorem advance_transmit_ignoresRing {m : Byte} {f : InternalFrame} {t : State} {fuel : Nat}
    (h : Stands who (.transmit m f) s t) : IgnoresRing (advance who fuel) t := by
  induction fuel generalizing t with
  | zero => exact fun _ => rfl
  | succ fuel ih =>
    obtain ⟨d, hruns, hst⟩ := h
    have hstep : IgnoresRing (fun u => andThen (stageStep who (t.port who).stage u) (advance who fuel)) t :=
      ignoresRing_andThen (stageStep_transmit_ignoresRing hst)
        fun u hu => ih ((stageStep_stands hruns rfl hst).of_next hu)
    intro r
    by_cases hhalted : t.lstate = .halted
    · rw [advance_halted hhalted, advance_halted (s := t.withRing r) hhalted]
      rfl
    · by_cases hidle : (t.port who).stage = .idle
      · rw [advance_idle hidle, advance_idle (s := t.withRing r) (by rwa [State.withRing_port])]
        rfl
      · rw [advance_succ hhalted hidle, advance_succ (s := t.withRing r) hhalted (by rwa [State.withRing_port]),
          State.withRing_port]
        exact hstep r

theorem begin_transmit_ignoresRing {f : InternalFrame} : IgnoresRing (begin who (.transmitEncode f)) s := by
  intro r
  have hstands : Stands who (.transmit 0 f) s (s.setStage who (.transmitEncode f)) :=
    Runs.start.stands_stage ⟨⟨_, _, rfl⟩, rfl⟩
  have hstage : (s.withRing r).setStage who (.transmitEncode f) = (s.setStage who (.transmitEncode f)).withRing r := by
    cases who <;> rfl
  rw [begin, hstage]
  exact advance_transmit_ignoresRing hstands r
end

/-- Settles O57: each operation is built of checks, questions and endings that ignore the ring. -/
theorem transmitPathIgnoresRing : Obligations.TransmitPathIgnoresRing := by
  intro i s r hi
  suffices h : IgnoresRing (exec i) s from h r
  unfold exec
  obtain ⟨m, f, rfl⟩ | ⟨m, rfl⟩ | ⟨m, rfl⟩ | ⟨f, rfl⟩ | ⟨w, rfl⟩ | rfl | rfl := hi
  · exact ignoresRing_request (ignoresRing_needReady (ignoresRing_needMailbox begin_transmit_ignoresRing))
  · refine ignoresRing_request (ignoresRing_needReady (ignoresRing_needMailbox
      (ignoresRing_askPollWritable fun x t => ?_)))
    cases x with
    | failed => exact ignoresRing_raise
    | yes | no => exact ignoresRing_respond
  · exact ignoresRing_request (ignoresRing_needMailbox ignoresRing_respond)
  · exact ignoresRing_request fun r => ignoresRing_respond r
  · exact ignoresRing_request fun r => ignoresRing_respond r
  · exact ignoresRing_request ignoresRing_respond
  · exact ignoresRing_request ignoresRing_respond

end Sys2Proof.Machine
end

section
/-! SUPPORT. Proofs for the ring statements (41_fifo): what each primitive comes to under each of its checks, whatever
is done with its answer; then the operations, which are the primitives behind the common checks, the two moves that end
a held CLAIM_FULL, and INTAKE's use of CLAIM_EMPTY on a full ring. -/

namespace Sys2Proof.Machine

/-! ## Slots and sizes (R22, R69, R153) -/

theorem sizeAccepted_iff {size : Byte} : sizeAccepted size = true ↔ 1 ≤ size.toNat ∧ size.toNat ≤ 13 := by
  have hzero : size = 0#8 ↔ size.toNat = 0 := BitVec.toNat_inj.symm
  simp [sizeAccepted, slotBytes, hzero, Nat.one_le_iff_ne_zero]

section
variable {s : State} {who : Agent} {cell : Slot} {i : Nat}

theorem withSlot_of_getElem? {k : Slot → State → Result} (hcell : s.slots[i]? = some cell) :
    withSlot i k s = k cell s := by
  simp only [withSlot, hcell]

theorem State.putFrame_eq {f : InternalFrame} (hcell : s.slots[i]? = some cell) :
    s.putFrame i f = { s with slots := s.slots.set i { cell with frame := some f } } := by
  rw [State.putFrame, List.modify_eq_set_getElem?, hcell]
  rfl

theorem State.putSize_eq {z : Byte} (hcell : s.slots[i]? = some cell) :
    s.putSize i z = { s with slots := s.slots.set i { cell with size := some z } } := by
  rw [State.putSize, List.modify_eq_set_getElem?, hcell]
  rfl

/-! ## The producer's primitives (R151 to R153) -/

section
variable {k : Option Byte → State → Result}

theorem claimEmpty_claimed (hclaim : s.pclaim = true) :
    claimEmpty who k s = .next (s.takeFault who .doubleClaimEmpty) :=
  if_pos hclaim

theorem claimEmpty_full (hfree : s.pclaim = false) (hfull : s.count = s.params.n) : claimEmpty who k s = k none s := by
  simp [claimEmpty, hfree, ringFull, hfull]

theorem claimEmpty_room (hfree : s.pclaim = false) (hroom : s.count ≠ s.params.n) :
    claimEmpty who k s = k (some (slotRef s.wr)) { s with pclaim := true } := by
  simp [claimEmpty, hfree, ringFull, hroom]
end

section
variable {slot size : Byte} {f : InternalFrame} {k : State → Result}

theorem slotWrite_notOwned (h : s.pclaim = false ∨ slot.toNat ≠ s.wr) :
    slotWrite who slot f k s = .next (s.takeFault who .slotWriteNotOwned) :=
  if_pos h

theorem slotWrite_owned (hclaim : s.pclaim = true) (hslot : slot.toNat = s.wr) (hcell : s.slots[s.wr]? = some cell) :
    slotWrite who slot f k s = k { s with slots := s.slots.set s.wr { cell with frame := some f } } := by
  rw [slotWrite, if_neg (by simp [hclaim, hslot]), withSlot_of_getElem? hcell, State.putFrame_eq hcell]

theorem publish_notClaimed (hfree : s.pclaim = false) :
    publish who slot size k s = .next (s.takeFault who .publishNotClaimed) :=
  if_pos hfree

theorem publish_wrongSlot (hclaim : s.pclaim = true) (hslot : slot.toNat ≠ s.wr) :
    publish who slot size k s = .next (s.takeFault who .publishWrongSlot) := by
  simp [publish, raise, hclaim, hslot]

theorem publish_badSize (hclaim : s.pclaim = true) (hslot : slot.toNat = s.wr) (hsize : sizeAccepted size = false) :
    publish who slot size k s = .next (s.takeFault who .publishBadSize) := by
  simp [publish, raise, hclaim, hslot, hsize]

theorem publish_accepted (hclaim : s.pclaim = true) (hslot : slot.toNat = s.wr) (hsize : sizeAccepted size = true)
    (hcell : s.slots[s.wr]? = some cell) :
    publish who slot size k s = k { s with
      slots := s.slots.set s.wr { cell with size := some size }
      count := s.count + 1
      wr := (s.wr + 1) % s.params.n
      pclaim := false
      history := .wake :: s.history } := by
  have hwrites : publish who slot size k s = k (s.published size) := by
    simp [publish, hclaim, hslot, hsize, withSlot_of_getElem? hcell]
  rw [hwrites, State.published, State.putSize_eq hcell]
  rfl
end

/-! ## The consumer's primitives (R156, R157, R159) -/

section
variable {timeout : Word32} {k : ClaimAnswer → State → Result}

theorem claimFull_claimed (hclaim : s.cclaim = true) :
    claimFull who timeout k s = .next (s.takeFault who .doubleClaimFull) :=
  if_pos hclaim

theorem claimFull_nonempty (hfree : s.cclaim = false) (hcount : 0 < s.count) (hcell : s.slots[s.rd]? = some cell) :
    claimFull who timeout k s = k (.slot (slotRef s.rd) cell.size) { s with cclaim := true } := by
  simp [claimFull, hfree, ringEmpty, hcount.ne', withSlot_of_getElem? hcell]

theorem claimFull_immediate (hfree : s.cclaim = false) (hempty : s.count = 0) :
    claimFull who immediateTimeout k s = k .empty s := by
  simp [claimFull, hfree, ringEmpty, hempty]

theorem claimFull_holds (hfree : s.cclaim = false) (hempty : s.count = 0) (htimeout : timeout ≠ immediateTimeout) :
    claimFull who timeout k s = .next (s.hold timeout) := by
  simp [claimFull, hfree, ringEmpty, hempty, htimeout]
end

section
variable {slot : Byte} {k : InternalFrame → State → Result}

theorem slotRead_notOwned (h : s.cclaim = false ∨ slot.toNat ≠ s.rd) :
    slotRead who slot k s = .next (s.takeFault who .slotReadNotOwned) :=
  if_pos h

theorem slotRead_unwritten (hclaim : s.cclaim = true) (hslot : slot.toNat = s.rd)
    (hcell : s.slots[s.rd]? = some cell) (hframe : cell.frame = none) :
    slotRead who slot k s = .next (s.takeFault who .unwrittenSlot) := by
  rw [slotRead, if_neg (by simp [hclaim, hslot]), withSlot_of_getElem? hcell, hframe]
  rfl

theorem slotRead_owned {f : InternalFrame} (hclaim : s.cclaim = true) (hslot : slot.toNat = s.rd)
    (hcell : s.slots[s.rd]? = some cell) (hframe : cell.frame = some f) : slotRead who slot k s = k f s := by
  rw [slotRead, if_neg (by simp [hclaim, hslot]), withSlot_of_getElem? hcell, hframe]
end

section
variable {slot : Byte} {k : State → Result}

theorem release_notClaimed (hfree : s.cclaim = false) :
    release who slot k s = .next (s.takeFault who .releaseNotClaimed) :=
  if_pos hfree

theorem release_wrongSlot (hclaim : s.cclaim = true) (hslot : slot.toNat ≠ s.rd) :
    release who slot k s = .next (s.takeFault who .releaseWrongSlot) := by
  simp [release, raise, hclaim, hslot]

theorem release_owned (hclaim : s.cclaim = true) (hslot : slot.toNat = s.rd) :
    release who slot k s = k s.released := by
  simp [release, hclaim, hslot]
end

/-! ## The ends of a hold (R158) -/

theorem completeHeld_completes (hring : ringUsable s = true) (hheld : s.cwait = true) (hcount : 0 < s.count)
    (hfree : s.cclaim = false) (hcell : s.slots[s.rd]? = some cell) :
    completeHeld s = .next
      (State.respond { s with cwait := false, cclaim := true } .c (.slotSize (slotRef s.rd) cell.size)) := by
  rw [completeHeld, if_pos ⟨hring, hheld, hcount, hfree⟩, withSlot_of_getElem? hcell]
  rfl

theorem completeHeld_stays (h : ringUsable s = false ∨ s.cwait = false ∨ s.count = 0 ∨ s.cclaim = true) :
    completeHeld s = .next s :=
  if_neg fun ⟨hring, hheld, hcount, hfree⟩ => by simp [hring, hheld, hcount.ne', hfree] at h

theorem expireHeld_expires (hring : ringUsable s = true) (hheld : s.cwait = true) (hfinite : s.ctmo ≠ infiniteTimeout) :
    expireHeld s = .next (State.respond { s with cwait := false } .c .empty) :=
  if_pos ⟨hring, hheld, hfinite⟩

theorem expireHeld_stays (h : ringUsable s = false ∨ s.cwait = false ∨ s.ctmo = infiniteTimeout) :
    expireHeld s = .next s :=
  if_neg fun ⟨hring, hheld, hfinite⟩ => by simp [hring, hheld, hfinite] at h

/-! ## The ring operations (R150) -/

/-- R150: an operation on the ring, on the port it belongs to and with the ring set up, comes to its primitive. -/
theorem request_needInit_runs {i : Instr} {k : Agent → State → Result} (hwho : s.turn.agent = who)
    (hring : ringUsable s = true) (hport : mayIssue who i = true) :
    request i (fun who => needInit who (k who)) s = k who (s.log (.request who i)) := by
  subst hwho
  have hlive : s.lstate ≠ .halted := by
    intro hs
    simp [ringUsable, hs] at hring
  rw [request_runs hlive hport, needInit_runs (by simpa using lstate_ne_uninit hring)]
end

/-- Settles O21: the two ends of SLOT_WRITE (R152). -/
theorem slotWriteStoresFrame : Obligations.SlotWriteStoresFrame := by
  intro s slot f hwho hring
  rw [exec, execSlotWrite, request_needInit_runs hwho hring rfl]
  exact ⟨fun h => slotWrite_notOwned h,
    fun cell hclaim hslot hcell => Eq.trans (slotWrite_owned hclaim hslot hcell) rfl⟩

/-- Settles O22: the three checks of PUBLISH and what it writes (R153). -/
theorem publishHandsOver : Obligations.PublishHandsOver := by
  intro s slot size hwho hring
  rw [exec, execPublish, request_needInit_runs hwho hring rfl]
  refine ⟨fun hfree => publish_notClaimed hfree, fun hclaim hslot => publish_wrongSlot hclaim hslot,
    fun hclaim hslot hsize => publish_badSize hclaim hslot ?_, fun cell hclaim hslot hmin hmax hcell =>
      Eq.trans (publish_accepted hclaim hslot (sizeAccepted_iff.2 ⟨hmin, hmax⟩) hcell) rfl⟩
  rw [Bool.eq_false_iff, ne_eq, sizeAccepted_iff]
  omega

/-- Settles O20: the three ends of CLAIM_EMPTY (R151). -/
theorem claimEmptyGivesWriteSlot : Obligations.ClaimEmptyGivesWriteSlot := by
  intro s hwho hring
  rw [exec, execClaimEmpty, request_needInit_runs hwho hring rfl]
  exact ⟨fun hclaim => claimEmpty_claimed hclaim, fun hfree hfull => Eq.trans (claimEmpty_full hfree hfull) rfl,
    fun hfree hroom => Eq.trans (claimEmpty_room hfree hroom) rfl⟩

/-- Settles O23: the four ends of CLAIM_FULL (R156). -/
theorem claimFullGivesReadSlot : Obligations.ClaimFullGivesReadSlot := by
  intro s timeout hwho hring
  rw [exec, execClaimFull, request_needInit_runs hwho hring rfl]
  refine ⟨fun hclaim => claimFull_claimed hclaim,
    fun cell hfree hcount hcell => Eq.trans (claimFull_nonempty hfree hcount hcell) rfl, ?_,
    fun hfree hempty htimeout => Eq.trans (claimFull_holds hfree hempty htimeout) rfl⟩
  rintro hfree hempty rfl
  exact Eq.trans (claimFull_immediate hfree hempty) rfl

/-- Settles O24: the three ends of SLOT_READ (R159). -/
theorem slotReadReturnsFrame : Obligations.SlotReadReturnsFrame := by
  intro s slot hwho hring
  rw [exec, execSlotRead, request_needInit_runs hwho hring rfl]
  exact ⟨fun h => slotRead_notOwned h,
    fun cell hclaim hslot hcell hframe => slotRead_unwritten hclaim hslot hcell hframe,
    fun cell f hclaim hslot hcell hframe => Eq.trans (slotRead_owned hclaim hslot hcell hframe) rfl⟩

/-- Settles O25: the three ends of RELEASE (R157). -/
theorem releaseFreesSlot : Obligations.ReleaseFreesSlot := by
  intro s slot hwho hring
  rw [exec, execRelease, request_needInit_runs hwho hring rfl]
  exact ⟨fun hfree => release_notClaimed hfree, fun hclaim hslot => release_wrongSlot hclaim hslot,
    fun hclaim hslot => Eq.trans (release_owned hclaim hslot) rfl⟩

/-- Settles O26: each of the two moves where it is enabled and where it is not (log 13). -/
theorem heldClaimEnds : Obligations.HeldClaimEnds := by
  refine fun s rest => ⟨fun hs => ?_, fun hs => ?_⟩
  · rw [step_of_schedule hs]
    exact ⟨fun cell hring hheld hcount hfree hcell => completeHeld_completes hring hheld hcount hfree hcell,
      fun h => completeHeld_stays h⟩
  · rw [step_of_schedule hs]
    exact ⟨fun hring hheld hfinite => expireHeld_expires hring hheld hfinite, fun h => expireHeld_stays h⟩

/-! ## INTAKE with the ring full (R154, R190) -/

/-- INTAKE in READY, on the producer's port, begins with the poll (R190). -/
theorem exec_intake_ready {s : State} (hwho : s.turn.agent = .p) (hready : s.lstate = .ready) :
    exec .intake s = begin .p .intakePoll (s.log (.request .p .intake)) := by
  have hlive : s.lstate ≠ .halted := by simp [hready]
  have hport : mayIssue s.turn.agent .intake = true := by rw [hwho]; rfl
  rw [exec, execIntake, request_runs hlive hport, hwho, if_pos (by simpa using hready)]

/-- Step 4 of INTAKE with no claim open and the ring full: the frame is dropped and the open parameter reported. -/
theorem stageStep_intakeClaim_full {s : State} {who : Agent} {f : InternalFrame} (hfree : s.pclaim = false)
    (hfull : s.count = s.params.n) :
    stageStep who (.intakeClaim f) s = .next (s.respond who (.bool s.params.dropReportsActivity)) := by
  rw [stageStep, claimEmpty_full hfree hfull, respond]

/-- Settles O28: steps 1 to 3 read the frame, and step 4 ends the INTAKE without it. -/
theorem intakeDropsWhenFull : Obligations.IntakeDropsWhenFull := by
  intro s w rx pollReads reads d₁ d₂ hwho hsteps hready hlink hrx hpoll hread hfree hfull
  obtain ⟨n, hn⟩ : ∃ n, s.turn.steps = n + 6 := ⟨s.turn.steps - 6, by omega⟩
  have hlive : s.lstate ≠ .halted := by simp [hready]
  rw [exec_intake_ready hwho hready, begin, State.log_turn, hn]
  refine Eq.trans (advance_intakePoll (n := n + 3) rfl hlive hlink hrx hpoll hread) ?_
  exact advance_of_stageStep hlive rfl nofun (stageStep_intakeClaim_full hfree hfull) (advance_idle rfl)

end Sys2Proof.Machine
end

section
/-! SUPPORT. Proofs for the datapath statements (42_datapath): what a stage of INTAKE, RECEIVE and TRANSMIT comes to
under each answer it may get, and so each end of the three operations in a turn long enough; then IS_TX_READY, which is
one question. -/

namespace Sys2Proof.Machine

section
variable {s : State} {who : Agent}

/-! ## The checks before a datapath operation (R199, R105) -/

/-- An operation on mailbox 0, on the port it belongs to and in READY, comes to its body. -/
theorem request_needReady_runs {i : Instr} {k : Agent → State → Result} (hwho : s.turn.agent = who)
    (hready : s.lstate = .ready) (hport : mayIssue who i = true) :
    request i (fun who => needReady who (needMailbox who 0 (k who))) s = k who (s.log (.request who i)) := by
  subst hwho
  have hlive : s.lstate ≠ .halted := by simp [hready]
  rw [request_runs hlive hport, needReady_runs (by simpa using hready), needMailbox_zero]

/-! ## How a turn of a composite operation ends (R10, R252) -/

/-- A fault ends the operation, whatever stage it stands at. -/
theorem State.setStage_takeFault (s : State) (who : Agent) (st : Stage) (c : FaultCode) :
    (s.setStage who st).takeFault who c = s.takeFault who c := by
  cases who <;> rfl

@[simp] theorem State.takeFault_stage (s : State) (who : Agent) (c : FaultCode) :
    ((s.takeFault who c).port who).stage = .idle := by
  cases who <;> rfl

/-- A step that faults is the last of its turn; the state it leaves does not tell the stage. -/
theorem advance_faults {t u : State} {n : Nat} {st : Stage} {c : FaultCode} (hlive : s.lstate ≠ .halted)
    (hport : (s.port who).stage = st) (hst : st ≠ .idle) (hstep : stageStep who st s = .next (t.takeFault who c))
    (hstage : t = u.setStage who st) : advance who (n + 1) s = .next (u.takeFault who c) := by
  rw [hstage, State.setStage_takeFault] at hstep
  exact advance_of_stageStep hlive hport hst hstep (advance_idle (u.takeFault_stage who c))

/-- A response ends the operation, whatever stage it stands at. -/
theorem State.setStage_respond (s : State) (who : Agent) (st : Stage) (r : Response) :
    (s.setStage who st).respond who r = s.respond who r := by
  cases who <;> rfl

@[simp] theorem State.respond_stage (s : State) (who : Agent) (r : Response) :
    ((s.respond who r).port who).stage = .idle := by
  cases who <;> rfl

/-- A step that answers is the last of its turn; the state it leaves does not tell the stage. -/
theorem advance_responds {t u : State} {n : Nat} {st : Stage} {r : Response} (hlive : s.lstate ≠ .halted)
    (hport : (s.port who).stage = st) (hst : st ≠ .idle) (hstep : stageStep who st s = .next (t.respond who r))
    (hstage : t = u.setStage who st) : advance who (n + 1) s = .next (u.respond who r) := by
  rw [hstage, State.setStage_respond] at hstep
  exact advance_of_stageStep hlive hport hst hstep (advance_idle (u.respond_stage who r))

/-! ## The stages of INTAKE that end it early (R190, R243, R244, R248) -/

theorem stageStep_intakePoll_no {pollReads : List Ack} {draws : Nat} (hlink : s.link = true)
    (hdraw : drawFrom s.env.pollReads Config.freePollReadable s.draws = (.ok, pollReads, draws))
    (hrx : s.env.wireRx = []) :
    stageStep who .intakePoll s = .next
      (State.respond { s with env := { s.env with pollReads := pollReads }, draws := draws } who (.bool false)) := by
  rw [stageStep, askPollReadable, whileLinked_runs hlink]
  simp only [hdraw, if_pos hrx, respond]

theorem stageStep_intakePoll_failed {pollReads : List Ack} {draws : Nat} (hlink : s.link = true)
    (hdraw : drawFrom s.env.pollReads Config.freePollReadable s.draws = (.failed, pollReads, draws)) :
    stageStep who .intakePoll s = .next
      (State.takeFault { s with env := { s.env with pollReads := pollReads }, draws := draws } who .pollFailure) := by
  rw [stageStep, askPollReadable, whileLinked_runs hlink]
  simp only [hdraw, raise]

section
variable {reads : List ReadAnswer} {draws : Nat} {w : WireBytes} {rx : List WireBytes} (hlink : s.link = true)
  (hrx : s.env.wireRx = w :: rx)
include hlink hrx

/-- A failed read that leaves the head of WIRE_RX (log 9). -/
theorem stageStep_intakeRead_failed_kept
    (hdraw : drawFrom s.env.reads Config.freeRead s.draws = (.failed false, reads, draws)) :
    stageStep who .intakeRead s = .next
      (State.takeFault { s with env := { s.env with reads := reads }, draws := draws } who .receiveFailure) := by
  rw [stageStep, askRead, whileLinked_runs hlink]
  simp only [hdraw, hrx, raise]

/-- A failed read that loses the head of WIRE_RX (log 9). -/
theorem stageStep_intakeRead_failed_lost
    (hdraw : drawFrom s.env.reads Config.freeRead s.draws = (.failed true, reads, draws)) :
    stageStep who .intakeRead s = .next
      ((State.dropHead { s with env := { s.env with reads := reads }, draws := draws } w rx .lost).takeFault who
        .receiveFailure) := by
  rw [stageStep, askRead, whileLinked_runs hlink]
  simp only [hdraw, hrx, raise]
end

theorem stageStep_intakeClaim_claimed {f : InternalFrame} (hclaim : s.pclaim = true) :
    stageStep who (.intakeClaim f) s = .next (s.takeFault who .doubleClaimEmpty) := by
  rw [stageStep, claimEmpty_claimed hclaim]

/-! ## The stages of RECEIVE (R192) -/

theorem stageStep_receiveClaim_claimed (hclaim : s.cclaim = true) :
    stageStep who .receiveClaim s = .next (s.takeFault who .doubleClaimFull) := by
  rw [stageStep, claimFull_claimed hclaim]

theorem stageStep_receiveClaim_empty (hfree : s.cclaim = false) (hempty : s.count = 0) :
    stageStep who .receiveClaim s = .next (s.respond who .none) := by
  rw [stageStep, claimFull_immediate hfree hempty, respond]

theorem stageStep_receiveClaim_nonempty {cell : Slot} (hfree : s.cclaim = false) (hcount : 0 < s.count)
    (hcell : s.slots[s.rd]? = some cell) :
    stageStep who .receiveClaim s =
      .next (State.setStage { s with cclaim := true } who (.receiveRead (slotRef s.rd))) := by
  rw [stageStep, claimFull_nonempty hfree hcount hcell]

theorem stageStep_receiveRead_unwritten {slot : Byte} {cell : Slot} (hclaim : s.cclaim = true)
    (hslot : slot.toNat = s.rd) (hcell : s.slots[s.rd]? = some cell) (hframe : cell.frame = none) :
    stageStep who (.receiveRead slot) s = .next (s.takeFault who .unwrittenSlot) := by
  rw [stageStep, slotRead_unwritten hclaim hslot hcell hframe]

theorem stageStep_receiveRead_owned {slot : Byte} {cell : Slot} {f : InternalFrame} (hclaim : s.cclaim = true)
    (hslot : slot.toNat = s.rd) (hcell : s.slots[s.rd]? = some cell) (hframe : cell.frame = some f) :
    stageStep who (.receiveRead slot) s = .next (s.setStage who (.receiveRelease slot f)) := by
  rw [stageStep, slotRead_owned hclaim hslot hcell hframe]

theorem stageStep_receiveRelease {slot : Byte} {f : InternalFrame} (hclaim : s.cclaim = true)
    (hslot : slot.toNat = s.rd) :
    stageStep who (.receiveRelease slot f) s = .next (s.released.setStage who (.receiveReply f)) := by
  rw [stageStep, release_owned hclaim hslot]

theorem stageStep_receiveReply {f : InternalFrame} :
    stageStep who (.receiveReply f) s = .next (s.respond who (.frame f)) := rfl

/-- Step 1 of RECEIVE with no claim open and a frame in the ring. -/
theorem advance_receiveClaim {cell : Slot} {n : Nat} (hstage : s.portC.stage = .receiveClaim)
    (hlive : s.lstate ≠ .halted) (hfree : s.cclaim = false) (hcount : 0 < s.count)
    (hcell : s.slots[s.rd]? = some cell) :
    advance .c (n + 1) s = advance .c n { s with
      cclaim := true
      portC := { s.portC with stage := .receiveRead (slotRef s.rd) } } :=
  advance_of_stageStep hlive hstage nofun (stageStep_receiveClaim_nonempty hfree hcount hcell) rfl

/-- Steps 2 to 4 of RECEIVE with a frame in the claimed slot: it is read, released and answered. -/
theorem advance_receiveRead {slot : Byte} {cell : Slot} {f : InternalFrame} {n : Nat}
    (hstage : s.portC.stage = .receiveRead slot) (hlive : s.lstate ≠ .halted) (hclaim : s.cclaim = true)
    (hslot : slot.toNat = s.rd) (hcell : s.slots[s.rd]? = some cell) (hframe : cell.frame = some f) :
    advance .c (n + 3) s = .next { s with
      count := s.count - 1
      rd := (s.rd + 1) % s.params.n
      cclaim := false
      portC := { s.portC with stage := .idle }
      history := .response .c (.frame f) :: s.history } := by
  refine advance_of_stageStep hlive hstage nofun (stageStep_receiveRead_owned hclaim hslot hcell hframe) ?_
  refine advance_of_stageStep hlive rfl nofun (stageStep_receiveRelease hclaim hslot) ?_
  exact Eq.trans (advance_responds hlive rfl nofun stageStep_receiveReply rfl) rfl

/-! ## The stages of TRANSMIT (R194, R262) -/

theorem stageStep_transmitWrite_ok {w : WireBytes} {writes : List Ack} {draws : Nat} (hlink : s.link = true)
    (hdraw : drawFrom s.env.writes (Config.freeWrite w) s.draws = (.ok, writes, draws)) :
    stageStep who (.transmitWrite w) s = .next ((State.log { s with
      env := { s.env with writes := writes, wireTx := s.env.wireTx ++ [w] }
      draws := draws } (.sent w)).setStage who .transmitReply) := by
  rw [stageStep, askWrite, whileLinked_runs hlink]
  simp only [hdraw]

theorem stageStep_transmitWrite_failed {w : WireBytes} {writes : List Ack} {draws : Nat} (hlink : s.link = true)
    (hdraw : drawFrom s.env.writes (Config.freeWrite w) s.draws = (.failed, writes, draws)) :
    stageStep who (.transmitWrite w) s = .next (State.takeFault
      { s with env := { s.env with writes := writes }, draws := draws } who .transmitFailure) := by
  rw [stageStep, askWrite, whileLinked_runs hlink]
  simp only [hdraw, raise]

theorem stageStep_transmitReply : stageStep who .transmitReply s = .next (s.respond who .ok) := rfl

/-- Step 1 of TRANSMIT. -/
theorem advance_transmitEncode {f : InternalFrame} {n : Nat} (hstage : s.portA.stage = .transmitEncode f)
    (hlive : s.lstate ≠ .halted) :
    advance .a (n + 1) s = advance .a n { s with
      portA := { s.portA with stage := .transmitWrite (encodeBytes s.params.wireByteOrder f) } } :=
  advance_of_stageStep hlive hstage nofun rfl rfl

/-- Steps 2 and 3 of TRANSMIT with the answer `ok`: the bytes are the newest of WIRE_TX, and OK is answered. -/
theorem advance_transmitWrite_ok {w : WireBytes} {writes : List Ack} {draws n : Nat}
    (hstage : s.portA.stage = .transmitWrite w) (hlive : s.lstate ≠ .halted) (hlink : s.link = true)
    (hdraw : drawFrom s.env.writes (Config.freeWrite w) s.draws = (.ok, writes, draws)) :
    advance .a (n + 2) s = .next { s with
      env := { s.env with writes := writes, wireTx := s.env.wireTx ++ [w] }
      draws := draws
      portA := { s.portA with stage := .idle }
      history := .response .a .ok :: .sent w :: s.history } := by
  refine advance_of_stageStep hlive hstage nofun (stageStep_transmitWrite_ok hlink hdraw) ?_
  exact Eq.trans (advance_responds hlive rfl nofun stageStep_transmitReply rfl) rfl

/-! ## The poll of IS_TX_READY (R197, R261) -/

theorem askPollWritable_eq {k : PollAnswer → State → Result} {x : PollAnswer} {pollWrites : List PollAnswer}
    {draws : Nat} (hlink : s.link = true)
    (hdraw : drawFrom s.env.pollWrites Config.freePollWritable s.draws = (x, pollWrites, draws)) :
    askPollWritable who k s = k x { s with env := { s.env with pollWrites := pollWrites }, draws := draws } := by
  rw [askPollWritable, whileLinked_runs hlink]
  simp only [hdraw]
end

/-! ## The operations -/

/-- Settles O29: the stage at which each of the INTAKEs ends, after the stages before it. -/
theorem intakeOtherEnds : Obligations.IntakeOtherEnds := by
  intro s pollReads reads x w rx d₁ d₂ hwho hsteps hready hlink
  obtain ⟨n, hn⟩ : ∃ n, s.turn.steps = n + 6 := ⟨s.turn.steps - 6, by omega⟩
  have hlive : s.lstate ≠ .halted := by simp [hready]
  rw [exec_intake_ready hwho hready, begin, State.log_turn, hn]
  refine ⟨fun hpoll hrx => ?_, fun hpoll => ?_, fun hpoll hrx hread => ?_⟩
  · exact advance_of_stageStep hlive rfl nofun (stageStep_intakePoll_no hlink hpoll hrx) (advance_idle rfl)
  · exact advance_faults hlive rfl nofun (stageStep_intakePoll_failed hlink hpoll) rfl
  · have hwaiting : s.env.wireRx ≠ [] := by simp [hrx]
    refine ⟨?_, ?_, ?_⟩
    · rintro rfl
      refine advance_of_stageStep hlive rfl nofun (stageStep_intakePoll_yes hlink hpoll hwaiting) ?_
      exact advance_faults hlive rfl nofun (stageStep_intakeRead_failed_kept hlink hrx hread) rfl
    · rintro rfl
      refine advance_of_stageStep hlive rfl nofun (stageStep_intakePoll_yes hlink hpoll hwaiting) ?_
      exact advance_faults hlive rfl nofun (stageStep_intakeRead_failed_lost hlink hrx hread) rfl
    · rintro rfl hclaim
      refine Eq.trans (advance_intakePoll (n := n + 3) rfl hlive hlink hrx hpoll hread) ?_
      exact advance_faults hlive rfl nofun (stageStep_intakeClaim_claimed hclaim) rfl

/-- Settles O30: RECEIVE ends at its claim, at its read of an unwritten slot, or after its four steps. -/
theorem receiveTakesOldestFrame : Obligations.ReceiveTakesOldestFrame := by
  intro s hwho hsteps hready
  obtain ⟨n, hn⟩ : ∃ n, s.turn.steps = n + 4 := ⟨s.turn.steps - 4, by omega⟩
  have hlive : s.lstate ≠ .halted := by simp [hready]
  rw [exec, execReceive, request_needReady_runs (k := fun who => begin who .receiveClaim) hwho hready rfl, begin,
    State.log_turn, hn]
  refine ⟨fun hclaim => ?_, fun hfree hempty => ?_, fun cell hfree hcount hrd hcell =>
    ⟨fun hframe => ?_, fun f hframe => ?_⟩⟩
  · exact advance_faults hlive rfl nofun (stageStep_receiveClaim_claimed hclaim) rfl
  · exact Eq.trans (advance_responds hlive rfl nofun (stageStep_receiveClaim_empty hfree hempty) rfl) rfl
  · refine Eq.trans (advance_receiveClaim (n := n + 3) rfl hlive hfree hcount hcell) ?_
    exact advance_faults hlive rfl nofun (stageStep_receiveRead_unwritten rfl (slotRef_toNat hrd) hcell hframe) rfl
  · refine Eq.trans (advance_receiveClaim (n := n + 3) rfl hlive hfree hcount hcell) ?_
    exact Eq.trans (advance_receiveRead rfl hlive rfl (slotRef_toNat hrd) hcell hframe) rfl

/-- Settles O31: TRANSMIT encodes, and the answer to its write ends it or lets it reply. -/
theorem transmitHandsToWire : Obligations.TransmitHandsToWire := by
  intro s f x writes draws hwho hsteps hready hlink hdraw
  obtain ⟨n, hn⟩ : ∃ n, s.turn.steps = n + 3 := ⟨s.turn.steps - 3, by omega⟩
  have hlive : s.lstate ≠ .halted := by simp [hready]
  rw [exec, execTransmit, request_needReady_runs (k := fun who => begin who (.transmitEncode f)) hwho hready rfl, begin,
    State.log_turn, hn, advance_transmitEncode (n := n + 2) rfl (by simpa using hlive)]
  refine ⟨?_, ?_⟩
  · rintro rfl
    exact Eq.trans (advance_transmitWrite_ok rfl hlive hlink hdraw) rfl
  · rintro rfl
    exact advance_faults hlive rfl nofun (stageStep_transmitWrite_failed hlink hdraw) rfl

/-- Settles O33: the poll's three answers. -/
theorem txReadyReportsPoll : Obligations.TxReadyReportsPoll := by
  intro s x pollWrites draws hwho hready hlink hdraw
  rw [exec, execIsTxReady, request_needReady_runs (k := fun who => askPollWritable who _) hwho hready rfl,
    askPollWritable_eq (by simpa using hlink) (by simpa using hdraw)]
  cases x with
  | yes | no => exact ⟨fun _ => rfl, nofun⟩
  | failed => exact ⟨fun h => absurd rfl h, fun _ => rfl⟩

end Sys2Proof.Machine
end

section
/-! SUPPORT. Proofs for the lifecycle statements (43_lifecycle): what INIT, STOP and the no-op hooks come to in each
LSTATE, the lifecycle check of every operation (R228), how a primitive operation that faults leaves the registers
(R252), and the transitions of LSTATE (R223). -/

namespace Sys2Proof.Machine

/-! ## The lifecycle check (R228) -/

section
variable {i : Instr} {s : State}

/-- R150, R228: outside HALTED the ring operations, START and STOP come to the check for UNINIT. -/
theorem exec_eq_needInit (hlive : s.lstate ≠ .halted) (hport : mayIssue s.turn.agent i = true)
    (hneeds : needsInitialised i = true) :
    ∃ k, exec i s = needInit s.turn.agent k (s.log (.request s.turn.agent i)) := by
  cases i with
  | start | stop | claimEmpty | slotWrite | publish | claimFull | slotRead | release =>
    rw [exec]
    exact ⟨_, request_runs hlive hport⟩
  | _ => cases hneeds

/-- R199, R228: outside HALTED the operations that need READY come to the check for it. -/
theorem exec_eq_needReady (hlive : s.lstate ≠ .halted) (hport : mayIssue s.turn.agent i = true)
    (hneeds : needsReady i = true) :
    ∃ k, exec i s = needReady s.turn.agent k (s.log (.request s.turn.agent i)) := by
  cases i with
  | receive | transmit | isRxNonempty | isTxReady =>
    rw [exec]
    exact ⟨_, request_runs hlive hport⟩
  | _ => cases hneeds

theorem needReady_faults {who : Agent} {k : State → Result} (h : s.lstate ≠ .ready) :
    needReady who k s = .next (s.takeFault who .notReady) := by
  simp [needReady, h, raise]

theorem exec_halted (hhalted : s.lstate = .halted) :
    exec i s = .next ((s.log (.request s.turn.agent i)).markRefused s.turn.agent) := by
  obtain ⟨body, hexec⟩ := exec_eq_request i s
  rw [hexec]
  exact request_halted hhalted

theorem exec_uninit_faults (huninit : s.lstate = .uninit) (hport : mayIssue s.turn.agent i = true)
    (hneeds : needsInitialised i = true) :
    exec i s = .next ((s.log (.request s.turn.agent i)).takeFault s.turn.agent .notInitialized) := by
  obtain ⟨k, hexec⟩ := exec_eq_needInit (by simp [huninit]) hport hneeds
  rw [hexec]
  exact needInit_faults huninit

theorem lstate_beforeReady (hstate : s.lstate = .uninit ∨ s.lstate = .stopped) :
    s.lstate ≠ .ready ∧ s.lstate ≠ .halted := by
  rcases hstate with h | h <;> simp [h]

/-- R199, R246: a datapath operation before READY. -/
theorem exec_notReady_faults (hstate : s.lstate = .uninit ∨ s.lstate = .stopped)
    (hport : mayIssue s.turn.agent i = true) (hneeds : needsReady i = true) :
    exec i s = .next ((s.log (.request s.turn.agent i)).takeFault s.turn.agent .notReady) := by
  obtain ⟨hready, hlive⟩ := lstate_beforeReady hstate
  obtain ⟨k, hexec⟩ := exec_eq_needReady hlive hport hneeds
  rw [hexec]
  exact needReady_faults hready

/-- R190 step 0: before READY INTAKE reports no activity. -/
theorem exec_intake_notReady (hstate : s.lstate = .uninit ∨ s.lstate = .stopped)
    (hport : mayIssue s.turn.agent .intake = true) :
    exec .intake s = .next ((s.log (.request s.turn.agent .intake)).respond s.turn.agent (.bool false)) := by
  obtain ⟨hready, hlive⟩ := lstate_beforeReady hstate
  rw [exec, execIntake, request_runs hlive hport, if_neg (by simpa using hready), respond]
end

/-! ## INIT, START, STOP and the no-op hooks by LSTATE (R220 to R222, R226, R227) -/

section
variable {s : State} (hwho : s.turn.agent = .a)
include hwho

theorem exec_init_uninit (huninit : s.lstate = .uninit) :
    exec .init s = .next ((s.log (.request .a .init)).initialised.respond .a .ok) := by
  have hport : mayIssue s.turn.agent .init = true := by rw [hwho]; rfl
  rw [exec, execInit, request_runs (by simp [huninit]) hport, hwho, if_pos (by simpa using huninit), respond]

/-- R220, R247: INIT happens once. -/
theorem exec_init_again (hstate : s.lstate = .stopped ∨ s.lstate = .ready) :
    exec .init s = .next ((s.log (.request .a .init)).takeFault .a .badLifecycle) := by
  have hlive : s.lstate ≠ .halted := by rcases hstate with h | h <;> simp [h]
  have hset : s.lstate ≠ .uninit := by rcases hstate with h | h <;> simp [h]
  have hport : mayIssue s.turn.agent .init = true := by rw [hwho]; rfl
  rw [exec, execInit, request_runs hlive hport, hwho, if_neg (by simpa using hset), raise]

theorem exec_start_ready {cfg : CfgName} (hready : s.lstate = .ready) :
    exec (.start cfg) s = .next ((s.log (.request .a (.start cfg))).respond .a .ok) := by
  rw [exec_start hwho (by simp [hready]), needInit_runs (by simp [hready]), if_pos (by simpa using hready), respond]

/-- STOP in STOPPED and READY (R222). -/
theorem exec_stop (hlive : s.lstate ≠ .halted) (hset : s.lstate ≠ .uninit) :
    exec .stop s = (if s.lstate = .stopped then respond .a .ok else closeLink .a) (s.log (.request .a .stop)) := by
  have hport : mayIssue s.turn.agent .stop = true := by rw [hwho]; rfl
  rw [exec, execStop, request_runs hlive hport, hwho, needInit_runs (by simpa using hset), State.log_lstate]
  split <;> rfl

theorem exec_stop_stopped (hstopped : s.lstate = .stopped) :
    exec .stop s = .next ((s.log (.request .a .stop)).respond .a .ok) := by
  rw [exec_stop hwho (by simp [hstopped]) (by simp [hstopped]), if_pos hstopped, respond]

/-- STOP in READY comes to the checks of R222. -/
theorem exec_stop_ready (hready : s.lstate = .ready) :
    exec .stop s = closeLink .a (s.log (.request .a .stop)) := by
  rw [exec_stop hwho (by simp [hready]) (by simp [hready]), if_neg (by simp [hready])]

/-- R226, R227, R198: each of the three is a request whose body answers OK. -/
theorem request_answersOk {i : Instr} {body : Agent → State → Result} (hlive : s.lstate ≠ .halted)
    (hport : mayIssue .a i = true) (hbody : body .a = respond .a .ok) :
    request i body s = .next { s with
      portA := { s.portA with stage := .idle }
      history := .response .a .ok :: .request .a i :: s.history } := by
  rw [request_runs hlive (by rwa [hwho]), hwho, hbody]
  rfl
end

section
variable {s : State} {who : Agent}

theorem closeLink_busy (h : lifecycleBusy s = true) :
    closeLink who s = .next (s.takeFault who .concurrentLifecycle) := by
  rw [closeLink, if_pos h, raise]

/-- R287: there is no link to close. -/
theorem closeLink_unlinked (hfree : lifecycleBusy s = false) (hlink : s.link = false) :
    closeLink who s = .next (s.markRefused who) := by
  rw [closeLink, hfree, if_neg Bool.false_ne_true, askClose, whileLinked_refused hlink]

/-- R222, R242: the environment fails to close the link. -/
theorem closeLink_failed {closes : List Ack} {draws : Nat} (hfree : lifecycleBusy s = false) (hlink : s.link = true)
    (hdraw : drawFrom s.env.closes Config.freeClose s.draws = (.failed, closes, draws)) :
    closeLink who s = .next
      (State.takeFault { s with env := { s.env with closes := closes }, draws := draws } who .closeFailure) := by
  rw [closeLink, hfree, if_neg Bool.false_ne_true, askClose, whileLinked_runs hlink]
  simp only [hdraw, raise]
end

/-- Settles O17: the checks of R222 in their order, then the refusal and the two answers of the environment. -/
theorem stopClosesLink : Obligations.StopClosesLink := by
  intro s x closes draws hwho hdraw
  have hport : mayIssue s.turn.agent .stop = true := by rw [hwho]; rfl
  refine ⟨fun huninit => ?_, fun hstopped => Eq.trans (exec_stop_stopped hwho hstopped) rfl,
    fun hready hbusy => ?_, fun hready hp hc hw => ?_⟩
  · rw [exec_uninit_faults huninit hport rfl, hwho]
  · rw [exec_stop_ready hwho hready]
    exact closeLink_busy (by simpa [lifecycleBusy, or_assoc] using hbusy)
  · have hfree : lifecycleBusy s = false := lifecycleBusy_eq_false.2 ⟨hp, hc, hw⟩
    refine ⟨?_, ?_, fun hlink => ?_⟩
    · rintro hlink rfl
      exact Eq.trans (exec_stop_closes hwho hready hlink hfree hdraw) rfl
    · rintro hlink rfl
      rw [exec_stop_ready hwho hready]
      exact closeLink_failed (s := s.log (.request .a .stop)) hfree hlink hdraw
    · rw [exec_stop_ready hwho hready]
      exact closeLink_unlinked (s := s.log (.request .a .stop)) hfree hlink

/-- Settles O19: the table of R228 row by row. -/
theorem lifecycleCheckTable : Obligations.LifecycleCheckTable := by
  intro i s hport
  have hwho (h : issuers i = [.a]) : s.turn.agent = .a := by simpa [mayIssue, h] using hport
  refine ⟨exec_halted, fun huninit => exec_uninit_faults huninit hport, fun hstate => exec_notReady_faults hstate hport,
    ?_, ?_, ?_, ?_⟩
  · rintro hstate rfl
    exact exec_intake_notReady hstate hport
  · rintro hstopped rfl
    rw [hwho rfl]
    exact exec_stop_stopped (hwho rfl) hstopped
  · rintro hready ⟨cfg, rfl⟩
    rw [hwho rfl]
    exact exec_start_ready (hwho rfl) hready
  · rintro hstate rfl
    rw [hwho rfl]
    exact exec_init_again (hwho rfl) hstate

/-- Settles O15: INIT in each LSTATE, its effect from UNINIT written out. -/
theorem initSetsUp : Obligations.InitSetsUp := by
  refine fun s hwho => ⟨fun huninit => Eq.trans (exec_init_uninit hwho huninit) rfl, exec_init_again hwho,
    fun hhalted => ?_⟩
  rw [exec_halted hhalted, hwho]

/-- Settles O18: the three hooks, ABORT behind its mailbox check. -/
theorem noOpHooksAnswerOk : Obligations.NoOpHooksAnswerOk := by
  refine fun s hwho hlive => ⟨?_, ?_, ?_⟩
  · rw [exec, execSleep]
    exact request_answersOk hwho hlive rfl rfl
  · rw [exec, execWakeup]
    exact request_answersOk hwho hlive rfl rfl
  · rw [exec, execAbort]
    exact request_answersOk hwho hlive rfl rfl

/-! ## Faults are precise (R252) -/

/-- What a primitive operation may have done when it faults: it is issued; it has asked the environment a question; START
has written CFG and asked `env.open` with it (R221). -/
inductive BeforeFault (i : Instr) (s : State) : State → Prop
  | issued : BeforeFault i s (s.log (.request s.turn.agent i))
  | asked {env : Env} {draws : Nat} (hrx : env.wireRx = s.env.wireRx) (htx : env.wireTx = s.env.wireTx) :
      BeforeFault i s { s.log (.request s.turn.agent i) with env := env, draws := draws }
  | opening {cfg : CfgName} {opens : List OpenAnswer} {draws : Nat} (hi : i = .start cfg) :
      BeforeFault i s (State.log { s.log (.request s.turn.agent i) with
        cfg := some cfg, env := { s.env with opens := opens }, draws := draws } (.opening (some cfg)))

/-- Where a primitive operation ends: not in HALTED, or by a fault before which it wrote no register of its own. -/
def PreciseEnd (i : Instr) (s t : State) : Prop :=
  t.lstate ≠ .halted ∨ ∃ u c, BeforeFault i s u ∧ t = u.takeFault s.turn.agent c

section
variable {i : Instr} {s t u : State}

theorem BeforeFault.fault (h : BeforeFault i s u) (c : FaultCode) : PreciseEnd i s (u.takeFault s.turn.agent c) :=
  .inr ⟨u, c, h, rfl⟩

theorem respond_precise {who : Agent} {r : Response} (h : t.lstate ≠ .halted) :
    Ends (PreciseEnd i s) (fun _ => True) (respond who r t) :=
  ends_respond.2 (.inl (by simpa using h))

theorem preciseEnd_markRefused {who : Agent} (h : t.lstate ≠ .halted) : PreciseEnd i s (t.markRefused who) :=
  .inl (by simpa using h)

/-! ### The checks and the questions of a primitive operation -/

theorem request_precise {body : Agent → State → Result} (hlive : s.lstate ≠ .halted)
    (hbody : Ends (PreciseEnd i s) (fun _ => True) (body s.turn.agent (s.log (.request s.turn.agent i)))) :
    Ends (PreciseEnd i s) (fun _ => True) (request i body s) :=
  request_ends (preciseEnd_markRefused hlive) fun _ _ => hbody

theorem needInit_precise {k : State → Result} (h : BeforeFault i s u)
    (hk : Ends (PreciseEnd i s) (fun _ => True) (k u)) :
    Ends (PreciseEnd i s) (fun _ => True) (needInit s.turn.agent k u) :=
  needInit_ends (h.fault _) fun _ => hk

theorem needReady_precise {k : State → Result} (h : BeforeFault i s u)
    (hk : Ends (PreciseEnd i s) (fun _ => True) (k u)) :
    Ends (PreciseEnd i s) (fun _ => True) (needReady s.turn.agent k u) :=
  needReady_ends (h.fault _) fun _ => hk

theorem needMailbox_precise {mbox : Byte} {k : State → Result} (h : BeforeFault i s u) (hlive : u.lstate ≠ .halted)
    (hk : Ends (PreciseEnd i s) (fun _ => True) (k u)) :
    Ends (PreciseEnd i s) (fun _ => True) (needMailbox s.turn.agent mbox k u) :=
  needMailbox_ends (preciseEnd_markRefused hlive) (h.fault _) hk
end

/-- R221: START writes CFG and asks before its environment faults. -/
theorem openLink_precise {cfg : CfgName} {s : State} :
    Ends (PreciseEnd (.start cfg) s) (fun _ => True)
      (openLink s.turn.agent cfg (s.log (.request s.turn.agent (.start cfg)))) := by
  unfold openLink
  split
  · exact BeforeFault.issued.fault _
  · refine askOpen_ends fun x opens draws => ?_
    have hasked := BeforeFault.opening (s := s) (cfg := cfg) (opens := opens) (draws := draws) rfl
    cases x with
    | ok fresh => exact respond_precise (by simp)
    | openFailed | resolveFailed | bindFailed => exact hasked.fault _

theorem closeLink_precise {s : State} (hlive : s.lstate ≠ .halted) :
    Ends (PreciseEnd .stop s) (fun _ => True)
      (closeLink s.turn.agent (s.log (.request s.turn.agent .stop))) := by
  unfold closeLink
  split
  · exact BeforeFault.issued.fault _
  · refine askClose_ends (fun _ => preciseEnd_markRefused hlive) fun x closes draws _ => ?_
    have hasked := BeforeFault.asked (i := .stop) (s := s) (env := { s.env with closes := closes })
      (draws := draws) rfl rfl
    cases x with
    | ok => exact respond_precise (by simp)
    | failed => exact hasked.fault _

/-- Every operation but the three composite ones ends precisely. -/
theorem exec_precise {i : Instr} {s : State} (hlive : s.lstate ≠ .halted) (hintake : i ≠ .intake)
    (hreceive : ∀ m, i ≠ .receive m) (htransmit : ∀ m f, i ≠ .transmit m f) :
    Ends (PreciseEnd i s) (fun _ => True) (exec i s) := by
  have hissued := BeforeFault.issued (i := i) (s := s)
  cases i with
  | init =>
    rw [exec, execInit]
    refine request_precise hlive ?_
    split
    · exact respond_precise (by simp)
    · exact hissued.fault _
  | start cfg =>
    rw [exec, execStart]
    refine request_precise hlive (needInit_precise hissued ?_)
    split
    · exact respond_precise hlive
    · exact openLink_precise
  | stop =>
    rw [exec, execStop]
    refine request_precise hlive (needInit_precise hissued ?_)
    split
    · exact respond_precise hlive
    · exact closeLink_precise hlive
  | sleep | wakeup | encode | decode =>
    rw [exec]
    exact request_precise hlive (respond_precise hlive)
  | claimEmpty =>
    rw [exec, execClaimEmpty]
    exact request_precise hlive (needInit_precise hissued (claimEmpty_ends (fun _ => hissued.fault _)
      (fun _ _ => respond_precise hlive) fun _ _ => respond_precise hlive))
  | slotWrite slot f =>
    rw [exec, execSlotWrite]
    exact request_precise hlive (needInit_precise hissued (slotWrite_ends (hissued.fault _)
      (fun _ _ _ => respond_precise hlive) fun _ _ => trivial))
  | publish slot size =>
    rw [exec, execPublish]
    exact request_precise hlive (needInit_precise hissued (publish_ends (fun c _ => hissued.fault c)
      (fun _ _ _ _ => respond_precise hlive) fun _ _ => trivial))
  | claimFull timeout =>
    rw [exec, execClaimFull]
    exact request_precise hlive (needInit_precise hissued (claimFull_ends (fun _ => hissued.fault _)
      (fun _ _ _ _ => respond_precise hlive) (fun _ _ _ => respond_precise hlive) (fun _ _ _ => .inl hlive)
      fun _ _ => trivial))
  | slotRead slot =>
    rw [exec, execSlotRead]
    exact request_precise hlive (needInit_precise hissued (slotRead_ends (fun c _ => hissued.fault c)
      (fun _ _ _ _ => respond_precise hlive) fun _ _ => trivial))
  | release slot =>
    rw [exec, execRelease]
    exact request_precise hlive (needInit_precise hissued (release_ends (fun c _ => hissued.fault c)
      fun _ _ => respond_precise hlive))
  | isRxNonempty mbox =>
    rw [exec, execIsRxNonempty]
    exact request_precise hlive (needReady_precise hissued (needMailbox_precise hissued hlive (respond_precise hlive)))
  | isTxReady mbox =>
    rw [exec, execIsTxReady]
    refine request_precise hlive (needReady_precise hissued (needMailbox_precise hissued hlive
      (askPollWritable_ends (fun _ => preciseEnd_markRefused hlive) fun x pollWrites draws _ => ?_)))
    have hasked := BeforeFault.asked (i := .isTxReady mbox) (s := s) (env := { s.env with pollWrites := pollWrites })
      (draws := draws) rfl rfl
    cases x with
    | failed => exact hasked.fault _
    | yes | no => exact respond_precise hlive
  | abort mbox =>
    rw [exec, execAbort]
    exact request_precise hlive (needMailbox_precise hissued hlive (respond_precise hlive))
  | intake => exact absurd rfl hintake
  | receive m => exact absurd rfl (hreceive m)
  | transmit m f => exact absurd rfl (htransmit m f)

/-- Settles O37: what the operation may have done before its fault, and the fault itself, write none of the registers. -/
theorem faultsArePrecise : Obligations.FaultsArePrecise := by
  intro i s t hexec hlive hhalted hintake hreceive htransmit
  obtain hlive' | ⟨u, c, hbefore, rfl⟩ := (exec_precise hlive hintake hreceive htransmit).of_next hexec
  · exact absurd hhalted hlive'
  · cases hbefore with
    | issued => simp +contextual
    | asked hrx htx => simp +contextual [hrx, htx]
    | opening hi => simp +contextual [hi]

/-! ## The transitions of LSTATE (R223) -/

/-- R223: the three arrows that lead to no fault, each with its operation. -/
def LifecycleArrow (i : Instr) (l l' : LState) : Prop :=
  (i = .init ∧ l = .uninit ∧ l' = .stopped) ∨ ((∃ cfg, i = .start cfg) ∧ l = .stopped ∧ l' = .ready) ∨
    (i = .stop ∧ l = .ready ∧ l' = .stopped)

/-- What may become of LSTATE in a run of `i`. -/
def LifecycleStep (i : Instr) (l l' : LState) : Prop := l' = l ∨ l' = .halted ∨ LifecycleArrow i l l'

section
variable {who : Agent} {i : Instr} {d d' : Bool} {s t : State}

/-- An update that is not the operation's one effect leaves LSTATE alone. -/
theorem Does.lstate_eq (h : Does who i d false s t) : t.lstate = s.lstate := by
  cases h <;> simp

/-- What moves LSTATE is the operation's one effect: a fault, or the arrow of the operation. -/
theorem Does.lifecycleStep (h : Does who i d d' s t) :
    t.lstate = s.lstate ∨ (d = false ∧ LifecycleStep i s.lstate t.lstate) := by
  cases h with
  | setUp hi hstate => exact .inr ⟨rfl, .inr (.inr (.inl ⟨hi, hstate, rfl⟩))⟩
  | linkUp fresh hi hstate => exact .inr ⟨rfl, .inr (.inr (.inr (.inl ⟨hi, hstate, rfl⟩)))⟩
  | linkDown hi hstate => exact .inr ⟨rfl, .inr (.inr (.inr (.inr ⟨hi, hstate, rfl⟩)))⟩
  | fault => exact .inr ⟨rfl, .inr (.inl (by simp))⟩
  | _ => exact .inl (by simp)

theorem Runs.lifecycleStep (h : Runs who i s d t) :
    (d = false → t.lstate = s.lstate) ∧ LifecycleStep i s.lstate t.lstate := by
  induction h with
  | start => exact ⟨fun _ => rfl, .inl rfl⟩
  | next _ hdo ih =>
    obtain ⟨hsame, hstep⟩ := ih
    refine ⟨?_, ?_⟩
    · rintro rfl
      obtain rfl := hdo.of_false
      exact hdo.lstate_eq.trans (hsame rfl)
    · obtain hkept | ⟨hd, hmoved⟩ := hdo.lifecycleStep
      · rwa [hkept]
      · rwa [hsame hd] at hmoved

theorem Reaches.lifecycleStep (h : Reaches who i s t) : LifecycleStep i s.lstate t.lstate :=
  let ⟨_, hr⟩ := h
  hr.lifecycleStep.2
end

theorem takeMove_lifecycleStep {m : Move} {s : State} :
    Ends (fun t => ∃ i, LifecycleStep i s.lstate t.lstate) (fun _ => True) (takeMove m s) := by
  have hstay {t : State} (h : t.lstate = s.lstate) : ∃ i, LifecycleStep i s.lstate t.lstate := ⟨.sleep, .inl h⟩
  refine takeMove_ends (hstay rfl) (fun who steps pending i t ht => ⟨i, ?_⟩) (fun _ => hstay rfl)
    (fun _ _ => hstay rfl) (fun _ _ _ _ _ _ => hstay rfl) fun _ => hstay rfl
  simpa [State.served] using ht.lifecycleStep

/-- Settles O54: an operation has one effect, and a move is a run of one operation or leaves LSTATE alone. -/
theorem lifecycleTransitions : Obligations.LifecycleTransitions := by
  refine ⟨fun i s t hexec hmoved hlive => ?_, fun s t hstep hmoved => ?_⟩
  · have h := ((exec_reaches i s).of_next hexec).lifecycleStep
    exact (h.resolve_left hmoved).resolve_left hlive
  · obtain ⟨i, h⟩ := (takeMove_lifecycleStep (s := (nextMove s).2)).of_next hstep
    obtain hhalted | ⟨-, h⟩ | ⟨-, h⟩ | ⟨-, h⟩ := h.resolve_left hmoved
    · exact .inl hhalted
    · exact .inr (.inl h)
    · exact .inr (.inr (.inl h))
    · exact .inr (.inr (.inr h))

end Sys2Proof.Machine
end

section
/-! SUPPORT. Proofs for the statements on faults (60_exceptions): a request with a reserved code (R250, R251), and HALTED,
which no step leaves and in which every request is refused (R252 to R255). -/

namespace Sys2Proof.Machine

/-! ## A reserved code (R250, R251 items 1 and 2) -/

theorem illegalRequest_halted {op : Byte} {s : State} (h : s.lstate = .halted) :
    illegalRequest op s = .next ((s.log (.illegal s.turn.agent op)).markRefused s.turn.agent) :=
  if_pos h

theorem illegalRequest_faults {op : Byte} {s : State} (h : s.lstate ≠ .halted) :
    illegalRequest op s = .next ((s.log (.illegal s.turn.agent op)).takeFault s.turn.agent .illegalOp) :=
  if_neg h

theorem serveRequest_reserved {who : Agent} {s : State} {r : Request} {more : List Request} {st : Stage} {op : Byte}
    (h : s.port who = ⟨r :: more, st⟩) (hr : decode r = .error (.reservedOp op)) :
    serveRequest who s = illegalRequest op (s.setPort who ⟨more, st⟩) := by
  simp [serveRequest, h, hr]

/-- R29, R250: the step that gives a turn to an idle agent, no held consumer, takes its next request off the port, also
where its code is reserved. -/
theorem step_reserved {s : State} {who : Agent} {steps : Nat} {r : Request} {more : List Request} {rest : List Move}
    {op : Byte} (hs : s.schedule = .agent who steps :: rest) (hport : s.port who = ⟨r :: more, .idle⟩)
    (hfree : ¬ (who = .c ∧ consumerHeld s = true)) (hr : decode r = .error (.reservedOp op)) :
    step s =
      illegalRequest op (State.setPort { s with schedule := rest, turn := ⟨who, steps⟩ } who ⟨more, .idle⟩) := by
  have hidle : (s.port who).stage = .idle := by rw [hport]
  rw [step_agent hs, agentTurn_serves (s := { s with schedule := rest }) hidle hfree]
  exact serveRequest_reserved hport hr

/-- Settles O36: the step is the request with a reserved code on the port it was taken off, in HALTED and elsewhere. -/
theorem reservedCodeFaults : Obligations.ReservedCodeFaults := by
  intro s who steps r more rest op hs hport hfree hr
  rw [step_reserved hs hport hfree hr]
  refine ⟨fun hlive => ?_, fun hhalted => ?_⟩
  · rw [illegalRequest_faults (by simpa using hlive), State.setPort_turn]
  · rw [illegalRequest_halted (by simpa using hhalted), State.setPort_turn]

/-! ## HALTED is for ever (R252 to R255) -/

/-- What no step from HALTED changes: every register and WIRE_TX; and the history grows by no response. -/
structure HaltKept (s t : State) : Prop where
  lstate : t.lstate = s.lstate
  fault : t.fault = s.fault
  same : ∀ r : Register, r ≠ .wireRx → r ≠ .fixed → r.Same s t
  history : ∃ es, t.history = es ++ s.history ∧ ∀ who r, Event.response who r ∉ es

section
variable {s : State}

/-- The history does not grow. -/
theorem HaltKept.of_history_eq {t : State} (hlstate : t.lstate = s.lstate) (hfault : t.fault = s.fault)
    (hsame : ∀ r : Register, r ≠ .wireRx → r ≠ .fixed → r.Same s t) (hhistory : t.history = s.history) :
    HaltKept s t :=
  ⟨hlstate, hfault, hsame, [], hhistory, by simp⟩

theorem HaltKept.refl (s : State) : HaltKept s s := .of_history_eq rfl rfl (fun r _ _ => .refl s r) rfl

theorem haltKept_turn (s : State) (turn : Turn) : HaltKept s { s with turn := turn } :=
  .of_history_eq rfl rfl (fun r _ hfixed => by cases r <;> simp_all [Register.Same]) rfl

/-- R11: which thread acts through port A is no register. -/
theorem haltKept_switchThread (s : State) (k : Nat) : HaltKept s (s.switchThread k) :=
  .of_history_eq rfl rfl (fun r _ hfixed => by cases r <;> simp_all [Register.Same]) rfl

/-- R260, R269: the environment changes WIRE_RX alone. -/
theorem haltKept_wireRx (s : State) (rx : List WireBytes) {e : Event} (he : ∀ who r, e ≠ .response who r) :
    HaltKept s (State.log { s with env := { s.env with wireRx := rx } } e) :=
  ⟨rfl, rfl, fun r hrx _ => by cases r <;> simp_all [Register.Same], [e], rfl, by simp [eq_comm, he]⟩

/-- R255: a request that is recorded and refused writes no register. -/
theorem haltKept_refused (s : State) (who issuer : Agent) (steps : Nat) (pending : List Request) {e : Event}
    (he : ∀ who r, e ≠ .response who r) :
    HaltKept s (((s.served who steps pending).log e).markRefused issuer) where
  lstate := by simp [State.served]
  fault := by simp [State.served]
  same r _ hfixed := by cases r <;> simp_all [Register.Same, State.served]
  history := ⟨[.refused issuer, e], by simp [State.served], by simp [eq_comm, he]⟩

/-- R252, R255: in HALTED no operation goes on, and what an agent issues is refused. -/
theorem agentTurn_haltKept {who : Agent} {steps : Nat} (h : s.lstate = .halted) :
    Ends (HaltKept s) (fun _ => True) (agentTurn who steps s) := by
  have hstay := ends_next (F := fun _ => True).2 (haltKept_turn s ⟨who, steps⟩)
  by_cases hbusy : (s.port who).stage = .idle
  · by_cases hheld : who = .c ∧ consumerHeld s = true
    · rwa [agentTurn_held hbusy hheld]
    · rw [agentTurn_serves hbusy hheld]
      have hserved (pending : List Request) : (s.served who steps pending).lstate = .halted := by
        simp [State.served, h]
      refine serveRequest_ends hstay (fun r pending i _ _ => ?_) fun r pending op _ _ => ?_
      · exact (exec_halted (hserved pending)).symm ▸ ends_next.2 (haltKept_refused s who _ steps pending nofun)
      · exact (illegalRequest_halted (hserved pending)).symm ▸ ends_next.2 (haltKept_refused s who _ steps pending nofun)
  · rwa [agentTurn_goesOn hbusy, advance_halted (s := { s with turn := ⟨who, steps⟩ }) h]

/-- R158, R228: in HALTED a hold neither completes nor expires; the other moves touch no register. -/
theorem takeMove_haltKept {m : Move} (h : s.lstate = .halted) :
    Ends (HaltKept s) (fun _ => True) (takeMove m s) := by
  have hring : ringUsable s = false := by simp [ringUsable, h]
  cases m with
  | agent who steps => exact agentTurn_haltKept h
  | thread k => exact ends_next.2 (haltKept_switchThread s k)
  | inject w => exact injectFrame_ends (.refl s) fun _ => haltKept_wireRx s _ nofun
  | lose k => exact loseFrame_ends (.refl s) fun _ _ _ => haltKept_wireRx s _ nofun
  | complete => rw [takeMove, completeHeld_stays (.inl hring)]; exact ends_next.2 (.refl s)
  | expire => rw [takeMove, expireHeld_stays (.inl hring)]; exact ends_next.2 (.refl s)
end

/-- Settles O53: in HALTED a move refuses a request, moves what is no register, or does nothing. -/
theorem haltedIsForEver : Obligations.HaltedIsForEver := by
  intro s t hhalted hstep
  obtain ⟨hlstate, hfault, hsame, hhistory⟩ := (takeMove_haltKept (s := (nextMove s).2) hhalted).of_next hstep
  exact ⟨hlstate.trans hhalted, hfault, hsame .link nofun nofun, hsame .cfg nofun nofun, hsame .wr nofun nofun,
    hsame .rd nofun nofun, hsame .count nofun nofun, hsame .pclaim nofun nofun, hsame .cclaim nofun nofun,
    hsame .cwait nofun nofun, hsame .ctmo nofun nofun, hsame .slots nofun nofun, hsame .wireTx nofun nofun, hhistory⟩

end Sys2Proof.Machine
end

section
/-! SUPPORT. Proofs for the reset statement: what the slots and the ports hold after hardware reset. -/

namespace Sys2Proof.Machine

/-- R280: every slot that an index finds is unwritten. -/
theorem resetWith_slot {c : Config} {i : Nat} {slot : Slot} (h : (State.resetWith c).slots[i]? = some slot) :
    slot = ⟨none, none⟩ :=
  (List.mem_replicate.1 (List.mem_of_getElem? h)).2

theorem frameAt_resetWith (c : Config) (i : Nat) : (State.resetWith c).frameAt i = none := by
  unfold State.frameAt
  split
  · next slot hslot => rw [resetWith_slot hslot]
  · rfl

theorem sizeAt_resetWith (c : Config) (i : Nat) : (State.resetWith c).sizeAt i = none := by
  unfold State.sizeAt
  split
  · next slot hslot => rw [resetWith_slot hslot]
  · rfl

theorem slots_length_resetWith (c : Config) : (State.resetWith c).slots.length = c.n := List.length_replicate

theorem port_resetWith (c : Config) (who : Agent) : (State.resetWith c).port who = Port.quiet := by
  cases who <;> rfl

/-- Settles O44: no slot has been written, all three ports are quiet, and the other registers have the values
reset names. -/
theorem resetRegisters : Obligations.ResetRegisters := fun c =>
  ⟨rfl, rfl, rfl, slots_length_resetWith c, fun i => ⟨frameAt_resetWith c i, sizeAt_resetWith c i⟩, rfl,
    fun who => congrArg Port.stage (port_resetWith c who), rfl⟩

end Sys2Proof.Machine
end
